-- ==== Sys2Proof/Word.lean ====
section
/-!
DEFINITION. The words of the block: bytes, 32-bit timestamps, and the two protocol variants every other file speaks of.
Spec: 00_scope.md R3, R8, R9.
-/

namespace Sys2Proof

/-- An unsigned byte: an identifier byte, a frame byte, an 8-bit register (R8). -/
abbrev Byte := BitVec 8

/-- An unsigned 32-bit timestamp; its sums and differences wrap (R9; `TIME_BITS = 32`, R7). -/
abbrev Time := BitVec 32

/-- The two protocol variants; "No third variant exists" (R3). -/
inductive Variant where
  | std
  | alt
deriving DecidableEq, Repr

end Sys2Proof
end

