-- ==== Sys2Proof/Config.lean ====
section
/-!
DEFINITION. The parameters the spec leaves to the implementation (00_scope.md R7), and the two it leaves OPEN as opaque
constants. "The configuration is not state" (R38): no step changes it.
-/

namespace Sys2Proof

/-- `BIT_ORDER`: the order of the data bits of a byte, for both variants (R7, R52). -/
inductive BitOrder where
  | msbFirst
  | lsbFirst
deriving DecidableEq, Repr

/-- `UPDATE_POLICY`: what happens to a command that would change the buffer of a transmission in flight (R7, R240). -/
inductive UpdatePolicy where
  | fault
  | wait
  | doubleBuffer
deriving DecidableEq, Repr

/-- `READY_MODEL`: whether an idle transport may report not ready (R7, R33). -/
inductive ReadyModel where
  | draw
  | exact
deriving DecidableEq, Repr

/-- The parameters of the block (R7). -/
structure Config where
  /-- `VARIANT_CODE(STD)` (R73). -/
  codeStd : Byte
  /-- `VARIANT_CODE(ALT)` (R73). -/
  codeAlt : Byte
  /-- `BIT_ORDER` (R52). -/
  bitOrder : BitOrder
  /-- `START_BIT` (R104). -/
  startBit : Bool
  /-- `STOP_BIT` (R104). -/
  stopBit : Bool
  /-- `PW_BITS`, the width of a pulse-buffer entry (R29). -/
  pwBits : Nat
  /-- `MARK(STD)` (R106). -/
  markStd : Nat
  /-- `MARK(ALT)` (R106). -/
  markAlt : Nat
  /-- `TICKS_PER_SECOND` (R7); log entry 17 for a value that is no multiple of 10. -/
  ticksPerSecond : Nat
  /-- `UPDATE_POLICY` (R240). -/
  updatePolicy : UpdatePolicy
  /-- `READY_MODEL` (R33). -/
  readyModel : ReadyModel
  /-- `LOWPOWER_ADVANCES_JITTER` (R165). -/
  lowPowerAdvancesJitter : Bool
deriving DecidableEq, Repr

/-- DESIGN CHOICE (log entry 6), safe: the free value behind `PW_BITS`, which R7 leaves OPEN. -/
opaque Config.freePwBits : Nat

/-- DESIGN CHOICE (log entry 6), safe: the free value behind `MARK(v)`, which R7 leaves OPEN. -/
opaque Config.freeMark : Variant → Nat

end Sys2Proof
end

