-- ==== Sys2Proof/Syntax.lean ====
section
/-!
DEFINITION. The abstract command (30_encoding.md R82), the CMD16 frame that delivers one (R70), the fault causes
(60_exceptions.md R201) and the tokens of an assembly line (R80).
-/

namespace Sys2Proof

/-- The eight commands (R71, R82): one constructor per row of spec/opcode_table.json. An identifier is a list of bytes of any
length, since a host may hand the block a typed command (R82). -/
inductive Instr where
  | init (v : Variant) (id : List Byte)
  | enable
  | disable
  | startRepeating
  | stopRepeating
  | updateData (v : Variant) (id : List Byte)
  | transmitOnce (v : Variant)
  | tick (v : Variant) (now : Time)
deriving DecidableEq, Repr

/-- A CMD16 frame: exactly 16 bytes, `f[0]` to `f[15]`, under the names of R70. -/
structure Frame where
  op : Byte
  var : Byte
  id0 : Byte
  id1 : Byte
  id2 : Byte
  id3 : Byte
  id4 : Byte
  id5 : Byte
  id6 : Byte
  id7 : Byte
  id8 : Byte
  rsv : Byte
  now0 : Byte
  now1 : Byte
  now2 : Byte
  now3 : Byte
deriving DecidableEq, Repr

/-- The causes `FAULT_CAUSE` can record (R201). -/
inductive Cause where
  | none
  | reservedCommand
  | badVariant
  | reservedField
  | idLengthMismatch
  | notSetUp
  | variantMismatch
  | bufferHazard
deriving DecidableEq, Repr

/-- The opcodes, by name (R71). -/
inductive Opcode where
  | init
  | enable
  | disable
  | startRepeating
  | stopRepeating
  | updateData
  | transmitOnce
  | tick
deriving DecidableEq, Repr

/-- An operand of an assembly line: `STD`, `ALT`, or a number as written (R80). -/
inductive AsmOperand where
  | variant (v : Variant)
  | number (n : Nat)
deriving DecidableEq, Repr

/-- An assembly line after lexing: mnemonic and operands (R80). -/
structure AsmLine where
  mnemonic : String
  operands : List AsmOperand
deriving DecidableEq, Repr

end Sys2Proof
end

