-- ==== Sys2Proof/Machine/Parameters.lean ====
section
/-!
DEFINITION. The constants of the two variants (00_scope.md R6), the parameters' default values (R7), the codes of variants
and fault causes (30_encoding.md R73, 60_exceptions.md R201), the jitter ROM (10_state.md R30).
-/

namespace Sys2Proof

/-- `DL(v)`: identifier bytes (R6). -/
def Variant.dataLen : Variant → Nat
  | .std => 6
  | .alt => 9

/-- `B(v)`: bits per encoded byte (R6). -/
def Variant.bitsPerByte : Variant → Nat
  | .std => 10
  | .alt => 8

/-- `T(v)`: toggle slots per bit (R6). -/
def Variant.toggleSlots : Variant → Nat
  | .std => 11
  | .alt => 4

/-- `G(v)`: gap slots per bit (R6). -/
def Variant.gapSlots : Variant → Nat
  | .std => 1
  | .alt => 0

/-- `S(v) = T(v) + G(v)`: pulse entries per bit (R6). -/
def Variant.slotsPerBit (v : Variant) : Nat := v.toggleSlots + v.gapSlots

/-- `E(v) = B(v) × S(v)`: pulse entries per identifier byte (R6). -/
def Variant.entriesPerByte (v : Variant) : Nat := v.bitsPerByte * v.slotsPerBit

/-- `LEN(v) = B(v) × DL(v) × (T(v) + G(v))`: the length of the pulse buffer (R6, R101). -/
def Variant.bufferLen (v : Variant) : Nat := v.bitsPerByte * v.dataLen * (v.toggleSlots + v.gapSlots)

/-- `SPACE`: the pulse width (a duration, held as a number, R29) of a 0 bit or of a gap (R7, R106). -/
def space : Nat := 0

/-- `MARK(v)`: the pulse width of a toggle slot of a 1 bit (R106). -/
def Config.mark (c : Config) : Variant → Nat
  | .std => c.markStd
  | .alt => c.markAlt

/-- `VARIANT_CODE(v)` (R73). -/
def Config.codeOf (c : Config) : Variant → Byte
  | .std => c.codeStd
  | .alt => c.codeAlt

/-- The variant a selector byte names, or none for a reserved selector (R73). -/
def Config.variantOf (c : Config) (b : Byte) : Option Variant :=
  if b = c.codeStd then some .std else if b = c.codeAlt then some .alt else none

/-- `BASE_INTERVAL` (R7). -/
def baseInterval : Nat := 4500

/-- `JITTER_UNIT` (R7). -/
def jitterUnit : Nat := 1000

/-- `JITTER_LEN` (R7). -/
def jitterLen : Nat := 15

/-- `JITTER_TABLE`, the constant array of 15 entries (R30). -/
def jitterTable : List Nat := [0, 9, 4, 8, 3, 9, 6, 7, 1, 6, 9, 7, 8, 2, 6]

/-- `LOW_RATE_INTERVAL = TICKS_PER_SECOND / 10` (R7, R165). DESIGN CHOICE (log entry 17), unsafe: the spec gives no rounding, and a
`TICKS_PER_SECOND` that is no multiple of 10 is divided with the remainder dropped. -/
def Config.lowRateInterval (c : Config) : Nat := c.ticksPerSecond / 10

/-- The code a cause is recorded under (R201). -/
def Cause.code : Cause → Byte
  | .none => 0
  | .reservedCommand => 1
  | .badVariant => 2
  | .reservedField => 3
  | .idLengthMismatch => 4
  | .notSetUp => 5
  | .variantMismatch => 6
  | .bufferHazard => 7

/-- DESIGN CHOICE (log entry 6), safe: `PW_BITS` after reset, a free value of at least 1. -/
def Config.openPwBits : Nat := Config.freePwBits + 1

/-- DESIGN CHOICE (log entry 6), safe: `MARK(v)` after reset, a free value with `0 < MARK(v) < 2^PW_BITS` (R106); every
admissible pair of values is given by some free values. -/
def Config.openMark (v : Variant) : Nat := 1 + Config.freeMark v % (2 ^ Config.openPwBits - 1)

/-- The default parameters of R7; the OPEN ones are free values. -/
def Config.default : Config where
  codeStd := 0x00
  codeAlt := 0x01
  bitOrder := .msbFirst
  startBit := true
  stopBit := false
  pwBits := Config.openPwBits
  markStd := Config.openMark .std
  markAlt := Config.openMark .alt
  ticksPerSecond := 1000000
  updatePolicy := .fault
  readyModel := .draw
  lowPowerAdvancesJitter := false

end Sys2Proof
end

