-- ==== Sys2Proof/WellFormed.lean ====
section
/-!
DEFINITION. What makes a command well-formed (40_encoder.md R102: the identifier has `DL(v)` bytes) and a configuration
admissible (00_scope.md R7, R106; 30_encoding.md R73).
-/

namespace Sys2Proof

/-- The identifier's length matches its variant (R102). -/
def idFits (v : Variant) (id : List Byte) : Bool := id.length == v.dataLen

/-- A well-formed command: "exactly DL(var) bytes" (R80, R102). Every other operand is bounded by its type. -/
def Instr.wellFormed : Instr → Bool
  | .init v id => idFits v id
  | .enable => true
  | .disable => true
  | .startRepeating => true
  | .stopRepeating => true
  | .updateData v id => idFits v id
  | .transmitOnce _ => true
  | .tick _ _ => true

/-- An admissible configuration: two different variant codes (R73), and `0 < MARK(v) < 2^PW_BITS` for both variants (R106). -/
abbrev Config.wf (c : Config) : Prop :=
  c.codeStd ≠ c.codeAlt ∧ (0 < c.markStd ∧ c.markStd < 2 ^ c.pwBits) ∧ (0 < c.markAlt ∧ c.markAlt < 2 ^ c.pwBits)

end Sys2Proof
end

