-- ==== Sys2Proof/Machine/Encoder.lean ====
section
/-!
DEFINITION. The protocol encoder: the pure function from identifier and variant to pulse buffer (40_encoder.md R100 to R107).
-/

namespace Sys2Proof.Machine

/-- Data bit number `k` in the order it is sent, `k = 0` first (R52). -/
def dataBit (c : Config) (x : Byte) (k : Nat) : Bool :=
  match c.bitOrder with
  | .msbFirst => x.getLsbD (7 - k)
  | .lsbFirst => x.getLsbD k

/-- Bit `k` of the encoded byte: STD frames the data bits with a start and a stop bit (R104), ALT does not (R105). -/
def frameBit (c : Config) (v : Variant) (x : Byte) (k : Nat) : Bool :=
  match v with
  | .std => if k = 0 then c.startBit else if k ≤ 8 then dataBit c x (k - 1) else c.stopBit
  | .alt => dataBit c x k

/-- The value of a toggle slot: `MARK(v)` for a 1 bit, `SPACE` for a 0 bit (R106). -/
def slotValue (c : Config) (v : Variant) (b : Bool) : Nat := if b then c.mark v else space

/-- One bit: `T(v)` toggle slots, then `G(v)` gap slots "always at rest" (R103). -/
def encodeBit (c : Config) (v : Variant) (b : Bool) : List Nat :=
  List.replicate v.toggleSlots (slotValue c v b) ++ List.replicate v.gapSlots space

/-- One identifier byte: its `B(v)` bits in order (R103). -/
def encodeByte (c : Config) (v : Variant) (x : Byte) : List Nat :=
  (List.range v.bitsPerByte).flatMap (fun k => encodeBit c v (frameBit c v x k))

/-- The identifier bytes in ascending index order (R51, R103). -/
def encodeBytes (c : Config) (v : Variant) (id : List Byte) : List Nat := id.flatMap (encodeByte c v)

/-- `encode(id, v)` of R103, faulting on an identifier of the wrong length (R102). -/
def encodeId (c : Config) (id : List Byte) (v : Variant) : Except Cause (List Nat) :=
  if idFits v id then .ok (encodeBytes c v id) else .error .idLengthMismatch

end Sys2Proof.Machine
end

