-- ==== Sys2Proof/Decode.lean ====
section
/-!
DEFINITION. The CMD16 decoder, total on any 16 bytes (30_encoding.md R70 to R79), the encoder written from the same tables,
the table words of spec/opcode_table.json, and the assembler over tokens (R80, R81).
-/

namespace Sys2Proof

/-- The 16 bytes of a frame, `f[0]` first (R70). -/
def Frame.toBytes (f : Frame) : List Byte :=
  [f.op, f.var, f.id0, f.id1, f.id2, f.id3, f.id4, f.id5, f.id6, f.id7, f.id8, f.rsv, f.now0, f.now1, f.now2, f.now3]

/-- Byte `f[i]` of a frame (R70). -/
def Frame.byte (f : Frame) (i : Nat) : Byte := f.toBytes.getD i 0

/-- The identifier field `ID0` to `ID8` (R70). -/
def Frame.idField (f : Frame) : List Byte := [f.id0, f.id1, f.id2, f.id3, f.id4, f.id5, f.id6, f.id7, f.id8]

/-- The identifier operand: the first `DL(v)` bytes of the field (R74). -/
def Frame.identifier (f : Frame) (v : Variant) : List Byte := f.idField.take v.dataLen

/-- The timestamp operand: `now = f[12] + 256·f[13] + 65536·f[14] + 16777216·f[15]` (R72). -/
def Frame.nowField (f : Frame) : Time :=
  BitVec.ofNat 32 (f.now0.toNat + 256 * f.now1.toNat + 65536 * f.now2.toNat + 16777216 * f.now3.toNat)

/-- Byte `k` of a number: its bits `8k+7` to `8k`. -/
def byteOf (w k : Nat) : Byte := BitVec.ofNat 8 (w / 2 ^ (8 * k))

/-- The frame of a list of exactly 16 bytes (R70, R79). -/
def Frame.ofBytes : List Byte → Option Frame
  | [b0, b1, b2, b3, b4, b5, b6, b7, b8, b9, b10, b11, b12, b13, b14, b15] =>
    some ⟨b0, b1, b2, b3, b4, b5, b6, b7, b8, b9, b10, b11, b12, b13, b14, b15⟩
  | _ => none

/-- The opcode map (R71). -/
def Opcode.code : Opcode → Byte
  | .init => 0x01
  | .enable => 0x02
  | .disable => 0x03
  | .startRepeating => 0x04
  | .stopRepeating => 0x05
  | .updateData => 0x06
  | .transmitOnce => 0x07
  | .tick => 0x08

/-- Every opcode, in the table's order (R71). -/
def Opcode.all : List Opcode :=
  [.init, .enable, .disable, .startRepeating, .stopRepeating, .updateData, .transmitOnce, .tick]

/-- The opcode a byte names; 0x00 and 0x09 to 0xFF name none (R71, R77). -/
def Opcode.ofByte (b : Byte) : Option Opcode := Opcode.all.find? (fun o => o.code == b)

/-- Whether a command uses `VAR` (R76). -/
def Opcode.usesVar : Opcode → Bool
  | .init | .updateData | .transmitOnce | .tick => true
  | .enable | .disable | .startRepeating | .stopRepeating => false

/-- The byte indices a command uses beside `OP` and `VAR`: the identifier bytes and the timestamp (R71, R75, R76). -/
def Opcode.operandBytes (v : Variant) : Opcode → List Nat
  | .init | .updateData => (List.range v.dataLen).map (· + 2)
  | .tick => [12, 13, 14, 15]
  | .enable | .disable | .startRepeating | .stopRepeating | .transmitOnce => []

/-- "if ∃ i ∈ 0..15, i ∉ used, f[i] ≠ 0" does not hold: every unused byte is 0 (R75, R76). -/
def Frame.reservedClear (f : Frame) (used : List Nat) : Bool :=
  (List.range 16).all (fun i => used.contains i || f.byte i == 0)

/-- The command of an opcode, with its operands as R72 and R74 assemble them. -/
def Opcode.command (o : Opcode) (v : Variant) (f : Frame) : Instr :=
  match o with
  | .init => .init v (f.identifier v)
  | .enable => .enable
  | .disable => .disable
  | .startRepeating => .startRepeating
  | .stopRepeating => .stopRepeating
  | .updateData => .updateData v (f.identifier v)
  | .transmitOnce => .transmitOnce v
  | .tick => .tick v f.nowField

/-- The check of the reserved bytes, and the command if they are clear (R76). -/
def decodeFields (o : Opcode) (v : Variant) (used : List Nat) (f : Frame) : Except Cause Instr :=
  if f.reservedClear used then .ok (o.command v f) else .error .reservedField

/-- The decoder of R76: a command or one fault, the first check that fails deciding the fault. A command without `VAR` has no
variant operand; the variant passed on for it is not used. -/
def decode (c : Config) (f : Frame) : Except Cause Instr :=
  match Opcode.ofByte f.op with
  | none => .error .reservedCommand
  | some o =>
    if o.usesVar then
      match c.variantOf f.var with
      | none => .error .badVariant
      | some v => decodeFields o v (0 :: 1 :: o.operandBytes v) f
    else decodeFields o .std [0] f

/-- Why bytes are no command: they are not one whole frame, which "is always delivered whole" (R54), or the frame faults
(R76). -/
inductive ByteReject where
  | notAFrame
  | faults (c : Cause)
deriving DecidableEq, Repr

/-- The decoder on any list of bytes, rejecting by name (R70, R76, R79). -/
def decodeBytes (c : Config) (bs : List Byte) : Except ByteReject Instr :=
  match Frame.ofBytes bs with
  | none => .error .notAFrame
  | some f =>
    match decode c f with
    | .ok i => .ok i
    | .error cause => .error (.faults cause)

/-- A frame from its fields: opcode, selector, identifier bytes (0 where there is none), timestamp; `RSV` is 0 (R70, R75). -/
def Frame.make (op var : Byte) (id : List Byte) (now : Time) : Frame where
  op := op
  var := var
  id0 := id.getD 0 0
  id1 := id.getD 1 0
  id2 := id.getD 2 0
  id3 := id.getD 3 0
  id4 := id.getD 4 0
  id5 := id.getD 5 0
  id6 := id.getD 6 0
  id7 := id.getD 7 0
  id8 := id.getD 8 0
  rsv := 0
  now0 := byteOf now.toNat 0
  now1 := byteOf now.toNat 1
  now2 := byteOf now.toNat 2
  now3 := byteOf now.toNat 3

/-- The opcode of a command (R71). -/
def Instr.opcode : Instr → Opcode
  | .init _ _ => .init
  | .enable => .enable
  | .disable => .disable
  | .startRepeating => .startRepeating
  | .stopRepeating => .stopRepeating
  | .updateData _ _ => .updateData
  | .transmitOnce _ => .transmitOnce
  | .tick _ _ => .tick

/-- The frame of a well-formed command (R70 to R75). -/
def encode (c : Config) (i : Instr) : Frame :=
  match i with
  | .init v id => Frame.make i.opcode.code (c.codeOf v) id 0
  | .enable => Frame.make i.opcode.code 0 [] 0
  | .disable => Frame.make i.opcode.code 0 [] 0
  | .startRepeating => Frame.make i.opcode.code 0 [] 0
  | .stopRepeating => Frame.make i.opcode.code 0 [] 0
  | .updateData v id => Frame.make i.opcode.code (c.codeOf v) id 0
  | .transmitOnce v => Frame.make i.opcode.code (c.codeOf v) [] 0
  | .tick v now => Frame.make i.opcode.code (c.codeOf v) [] now

/-- The frame whose byte `f[k]` is byte `k` of a number: `f[0]` holds its least significant bits. -/
def frameOfNumber (w : Nat) : Frame :=
  let b := byteOf w
  ⟨b 0, b 1, b 2, b 3, b 4, b 5, b 6, b 7, b 8, b 9, b 10, b 11, b 12, b 13, b 14, b 15⟩

/-- The frame whose byte `f[k]` is byte `15 - k` of a number: `f[0]` holds the most significant of its 128 bits, as
spec/opcode_table.json prints its numbers ("`f[0]` first"). -/
def frameOfPrintedNumber (w : Nat) : Frame :=
  let b := byteOf w
  ⟨b 15, b 14, b 13, b 12, b 11, b 10, b 9, b 8, b 7, b 6, b 5, b 4, b 3, b 2, b 1, b 0⟩

/-- The frame of a table word of `nbits` bits, every bit above them 0. DESIGN CHOICE (log entry 7), safe: bytes count from the
least significant bits; a number that is no command so, but is one as the opcode table prints it, is read as the table
prints it. -/
def frameOfTableWord (nbits w : Nat) : Frame :=
  let n := w % 2 ^ nbits
  match decode Config.default (frameOfNumber n), decode Config.default (frameOfPrintedNumber n) with
  | .error _, .ok _ => frameOfPrintedNumber n
  | _, _ => frameOfNumber n

/-- What the decoder, under the default parameters, reads from a table word; none where it refuses. -/
def decodeTableWord (nbits w : Nat) : Option Instr :=
  match decode Config.default (frameOfTableWord nbits w) with
  | .ok i => some i
  | .error _ => none

/-- The mnemonic of an opcode (R71, R80). -/
def Opcode.mnemonic : Opcode → String
  | .init => "INIT"
  | .enable => "ENABLE"
  | .disable => "DISABLE"
  | .startRepeating => "START_REPEATING"
  | .stopRepeating => "STOP_REPEATING"
  | .updateData => "UPDATE_DATA"
  | .transmitOnce => "TRANSMIT_ONCE"
  | .tick => "TICK"

/-- The byte an operand writes; "a byte above 0xFF" is refused (R80). -/
def AsmOperand.byte? : AsmOperand → Option Byte
  | .number n => if n ≤ 0xFF then some (BitVec.ofNat 8 n) else none
  | .variant _ => none

/-- The identifier of a line: "exactly DL(var) bytes" (R80). -/
def assembleId (v : Variant) (ops : List AsmOperand) : Option (List Byte) :=
  if ops.length = v.dataLen then ops.mapM AsmOperand.byte? else none

/-- The assembler over tokens: one command per line, refusing a wrong number of operands, "a byte above 0xFF, or a `now`
above `2^32-1`" (R80). There are no pseudo-instructions (R81). -/
def assemble (l : AsmLine) : Option Instr :=
  match Opcode.all.find? (fun o => o.mnemonic == l.mnemonic), l.operands with
  | some .init, .variant v :: ops => (assembleId v ops).map (Instr.init v)
  | some .enable, [] => some .enable
  | some .disable, [] => some .disable
  | some .startRepeating, [] => some .startRepeating
  | some .stopRepeating, [] => some .stopRepeating
  | some .updateData, .variant v :: ops => (assembleId v ops).map (Instr.updateData v)
  | some .transmitOnce, [.variant v] => some (.transmitOnce v)
  | some .tick, [.variant v, .number n] => if n < 2 ^ 32 then some (.tick v (BitVec.ofNat 32 n)) else none
  | _, _ => none

/-- The line a command is written as: mnemonic, then its operands (R80). -/
def disassemble (i : Instr) : AsmLine :=
  match i with
  | .init v id => ⟨i.opcode.mnemonic, .variant v :: id.map (fun b => .number b.toNat)⟩
  | .enable => ⟨i.opcode.mnemonic, []⟩
  | .disable => ⟨i.opcode.mnemonic, []⟩
  | .startRepeating => ⟨i.opcode.mnemonic, []⟩
  | .stopRepeating => ⟨i.opcode.mnemonic, []⟩
  | .updateData v id => ⟨i.opcode.mnemonic, .variant v :: id.map (fun b => .number b.toNat)⟩
  | .transmitOnce v => ⟨i.opcode.mnemonic, [.variant v]⟩
  | .tick v now => ⟨i.opcode.mnemonic, [.variant v, .number now.toNat]⟩

end Sys2Proof
end

