-- ==== Sys2Proof/Machine/State.lean ====
section
/-!
DEFINITION. The state of the machine as plain data: the registers S0 to S6 (10_state.md R20), the pulse buffer (R29), the
transport's state (R31), the output trace (R32), the inputs (R33), and the reasons a step can stop.
-/

namespace Sys2Proof.Machine

/-- An entry of `TRACE`: a call the block makes on the transport, or the transport's completion (R32). -/
inductive TraceEvent where
  | callInitialize (v : Variant)
  | callEnableDma (v : Variant)
  | callDisable
  | callLoadBuffer (buf : List Nat)
  | callTransmit (v : Variant) (buf : List Nat)
  | callWaitForComplete
  | complete
deriving DecidableEq, Repr

/-- How the host delivers a command: as a CMD16 frame (R70), or typed, without a frame (R82). -/
inductive Request where
  | frame (f : Frame)
  | typed (i : Instr)
deriving DecidableEq, Repr

/-- What the environment answers if the command draws it (R33): readiness while the transport is idle, and the low-power
condition. -/
structure Draws where
  hwReady : Bool
  lowPower : Bool
deriving DecidableEq, Repr

/-- One thing the outside world does: a command with the draws it will see (R21, R33), the transport's completion (R191), a
reset of block and transport together (R230). -/
inductive Input where
  | command (r : Request) (d : Draws)
  | txComplete
  | reset
deriving DecidableEq, Repr

/-- The machine's state. Register numbers are those of R20. -/
structure State where
  /-- The parameters (R38: not state; no step changes them; log entry 5). -/
  cfg : Config
  /-- S0 `INITIALISED`: the gate for transmission (R22). -/
  initialised : Bool
  /-- S1 `REPEATING`: the gate for scheduled transmission (R23). -/
  repeating : Bool
  /-- S2 `SETUP_DONE`: INIT has completed (R24). -/
  setupDone : Bool
  /-- S3 `ACTIVE_VARIANT`: the selector code INIT last set up; meaningful only when `SETUP_DONE = 1` (R25). -/
  activeVariant : Byte
  /-- S4 `NEXT_FIRE_AT` (R26). -/
  nextFireAt : Time
  /-- S5 `JITTER_INDEX`, a 4-bit register (R27). -/
  jitterIndex : BitVec 4
  /-- S6 `FAULT_CAUSE` (R28). -/
  faultCause : Byte
  /-- `PULSE_BUF`, entry 0 first; no entries while it holds no value (R29). -/
  pulseBuf : List Nat
  /-- `TX_BUSY`: a transmission is in flight (R31). -/
  txBusy : Bool
  /-- `TX_VARIANT`, which has a value only while a transmission is in flight (R31, R191). -/
  txVariant : Option Variant
  /-- `TX_SNAPSHOT`, which exists only under `DOUBLE_BUFFER` while a transmission is in flight (R31, R191). -/
  txSnapshot : Option (List Nat)
  /-- `TRACE`, oldest event first (R32). -/
  trace : List TraceEvent
  /-- The input `hwReady` as the present command would draw it while the transport is idle (R33); the model's field. -/
  hwReady : Bool
  /-- The input `lowPower` as the present command would draw it (R33); the model's field. -/
  lowPower : Bool
  /-- What the outside world does next, oldest first (R21, R58); the model's field (log entry 2). -/
  inputs : List Input
deriving DecidableEq, Repr

/-- The reasons a step has no next state. All are safe: the machine stops where the spec says there is no step, or where the
spec says the state cannot arise. -/
inductive Fault where
  /-- Raised by every command, and by the step for a command that waits: `FAULT_CAUSE ≠ 0`, so "no command has a step" (R203;
  log entries 8 and 18). Safe. -/
  | halted
  /-- Raised by INIT and UPDATE_DATA run while held, under `UPDATE_POLICY = WAIT` with a transmission in flight: "the command has
  no step until `P` holds" (R10, R131, R136). The step never raises it: it takes the completion instead (log entry 8). Safe. -/
  | held
  /-- Raised by ENABLE in a state no run reaches: `SETUP_DONE = 1` and `ACTIVE_VARIANT` holds no variant's code (R35 b; log entry 9). Safe. -/
  | noActiveVariant
  /-- Raised by TICK in a state no run reaches: `JITTER_INDEX = 15` (R27, R50; log entry 9). Safe. -/
  | jitterIndexOutOfTable
deriving DecidableEq, Repr

/-- The reasons an instruction is refused. -/
inductive Refusal where
  /-- Raised by `exec` for an instruction that has no meaning yet; no instruction is left in this state. Safe. -/
  | notModelled (mnemonic : String)
deriving DecidableEq, Repr

/-- The reset values under given parameters, with given inputs still to come (R230). `ACTIVE_VARIANT` and `PULSE_BUF` have "no
value" after reset: DESIGN CHOICE 0x00 and the empty list (log entry 1), unsafe. The lines `hwReady` and `lowPower`: DESIGN
CHOICE false (log entry 3), unsafe. -/
def State.resetWith (c : Config) (rest : List Input) : State where
  cfg := c
  initialised := false
  repeating := false
  setupDone := false
  activeVariant := 0
  nextFireAt := 0
  jitterIndex := 0
  faultCause := 0
  pulseBuf := []
  txBusy := false
  txVariant := none
  txSnapshot := none
  trace := []
  hwReady := false
  lowPower := false
  inputs := rest

/-- The machine right after reset (R230), under the default parameters (R7), with nothing yet asked of it (R231). -/
def State.reset : State := State.resetWith Config.default []

end Sys2Proof.Machine
end

