-- ==== Sys2Proof/Machine/Ops.lean ====
section
/-!
DEFINITION. The operations the commands share: recording a transport call (10_state.md R32), raising a fault
(60_exceptions.md R200), the check every command makes first (41_controller.md R130), storing the buffer, the transport's
response and completion (43_transport.md R190, R191), the transmit path (R133).
-/

namespace Sys2Proof.Machine

/-- `emit e`: append one event to `TRACE` (R10, R32). -/
def State.emit (e : TraceEvent) (s : State) : State := { s with trace := s.trace ++ [e] }

/-- `FAULT_CAUSE <- code` and nothing else (R200). -/
def State.recordFault (c : Cause) (s : State) : State := { s with faultCause := c.code }

/-- The block has faulted (R203). -/
def State.isHalted (s : State) : Bool := s.faultCause != 0

/-- Taking a fault: "`raise Fault(code)` sets `FAULT_CAUSE <- code` and ends the command" (R200). There is no vector, no saved
program counter and no return (R204, R205). -/
def raiseFault (c : Cause) (s : State) : Host.Outcome State Fault Refusal := .next (s.recordFault c)

/-- "Every command, INIT to TICK, runs only when `FAULT_CAUSE = 0`" (R130, R203). -/
def whenRunning (s : State) (body : Host.Outcome State Fault Refusal) : Host.Outcome State Fault Refusal :=
  if s.isHalted then .fault .halted else body

/-- INIT and UPDATE_DATA hold: "under `UPDATE_POLICY = WAIT`, the step is enabled only when `TX_BUSY = 0`" (R131, R136). -/
def State.holdsBuffer (s : State) : Bool := s.cfg.updatePolicy == .wait && s.txBusy

/-- A command that may hold runs only when it does not (R10, R131, R136). -/
def whenNotHeld (s : State) (body : Host.Outcome State Fault Refusal) : Host.Outcome State Fault Refusal :=
  if s.holdsBuffer then .fault .held else body

/-- Replace the whole pulse buffer (R29). -/
def State.storeBuffer (buf : List Nat) (s : State) : State := { s with pulseBuf := buf }

/-- `buf` into `PULSE_BUF`, then `emit LoadBuffer(buf)` (R131, R136). -/
def State.loadBuffer (buf : List Nat) (s : State) : State := (s.storeBuffer buf).emit (.callLoadBuffer buf)

/-- `ACTIVE_VARIANT <- VARIANT_CODE(v)` and `SETUP_DONE <- 1` (R131). -/
def State.setUpFor (v : Variant) (s : State) : State :=
  { s with activeVariant := s.cfg.codeOf v, setupDone := true }

/-- "if UPDATE_POLICY = WAIT: emit WaitForComplete()", which returns at once (R131, R136, R195). -/
def State.waitForComplete (s : State) : State :=
  if s.cfg.updatePolicy = .wait then s.emit .callWaitForComplete else s

/-- The transport's response to `Transmit(v, buf)`, in the same step (R190). -/
def State.startTx (v : Variant) (s : State) : State :=
  { s with
    txBusy := true
    txVariant := some v
    txSnapshot := if s.cfg.updatePolicy = .doubleBuffer then some s.pulseBuf else s.txSnapshot }

/-- The transmit path of TRANSMIT_ONCE and TICK (R133). -/
def issueTransmit (v : Variant) (s : State) : State := (s.emit (.callTransmit v s.pulseBuf)).startTx v

/-- The transmission in flight has ended: `TX_VARIANT` and `TX_SNAPSHOT` "cease to have a value" (R191). -/
def State.endTx (s : State) : State := { s with txBusy := false, txVariant := none, txSnapshot := none }

/-- The transport's own step, `TX_COMPLETE` (R191). -/
def completeTx (s : State) : State := s.endTx.emit .complete

/-- The transport's step, "enabled exactly when `TX_BUSY = 1`"; while idle it has none, and nothing changes (R191). -/
def transportStep (s : State) : State := if s.txBusy then completeTx s else s

/-- The buffer the transmission in flight replays: `TX_SNAPSHOT` under `DOUBLE_BUFFER`, else `PULSE_BUF` (R190). -/
def State.replayed (s : State) : List Nat :=
  match s.cfg.updatePolicy with
  | .doubleBuffer => s.txSnapshot.getD []
  | .fault | .wait => s.pulseBuf

end Sys2Proof.Machine
end

