-- ==== Sys2Proof/Machine/Flags.lean ====
section
/-!
DEFINITION. The two gates, "the only flags" (10_state.md R22, R23, R37): no command sets one as a side effect of a computation.
-/

namespace Sys2Proof.Machine

/-- `INITIALISED <- b` (R22). -/
def State.setInitialised (b : Bool) (s : State) : State := { s with initialised := b }

/-- `REPEATING <- b` (R23). -/
def State.setRepeating (b : Bool) (s : State) : State := { s with repeating := b }

/-- Both gates of TICK are open (R161). -/
def State.gatesOpen (s : State) : Bool := s.initialised && s.repeating

end Sys2Proof.Machine
end

