-- ==== Sys2Proof/Machine/Operands.lean ====
section
/-!
DEFINITION. How a command reads its operands and inputs: the variant argument against `ACTIVE_VARIANT` (R136, R138, R172),
`variantOf(ACTIVE_VARIANT)` (R132), the draws `hwReady` and `lowPower` (10_state.md R33), and `now` against `NEXT_FIRE_AT` (R162).
-/

namespace Sys2Proof.Machine

/-- `VARIANT_CODE(v) = ACTIVE_VARIANT` (R136, R138, R172). -/
def State.namesActive (s : State) (v : Variant) : Bool := s.cfg.codeOf v == s.activeVariant

/-- `variantOf(ACTIVE_VARIANT)` (R132); none only in a state no run reaches. -/
def State.setUpVariant (s : State) : Option Variant := s.cfg.variantOf s.activeVariant

/-- The answer of `isReady()`: false while a transmission is in flight; while idle either value under `READY_MODEL = DRAW`,
true under `EXACT` (R33, R194). It has no side effect. -/
def State.pollReady (s : State) : Bool :=
  !s.txBusy &&
    match s.cfg.readyModel with
    | .draw => s.hwReady
    | .exact => true

/-- The draw of `lowPower`, which is either value (R33, R165). -/
def State.sampleLowPower (s : State) : Bool := s.lowPower

/-- The due check: `s32(now -32 NEXT_FIRE_AT) ≥ 0`, the wrapping difference read as signed (R9, R162). -/
def isDue (now nextFireAt : Time) : Bool := decide (0 ≤ (now - nextFireAt).toInt)

end Sys2Proof.Machine
end

