-- ==== Sys2Proof/Machine/Controller.lean ====
section
/-!
DEFINITION. The transmission controller's commands (41_controller.md R131 to R138).
-/

namespace Sys2Proof.Machine

/-- INIT `v, id` (R131): the encoder's length check first, then the hazard check, then the writes in the rule's order. -/
def execInit (v : Variant) (id : List Byte) (s : State) : Host.Outcome State Fault Refusal :=
  whenRunning s <| whenNotHeld s <|
    match encodeId s.cfg id v with
    | .error c => raiseFault c s
    | .ok buf =>
      if s.txBusy && s.cfg.updatePolicy != .wait then raiseFault .bufferHazard s
      else
        .next ((((s.waitForComplete.setInitialised false).emit (.callInitialize v)).setUpFor v).loadBuffer buf)

/-- ENABLE (R132). -/
def execEnable (s : State) : Host.Outcome State Fault Refusal :=
  whenRunning s <|
    if !s.setupDone then raiseFault .notSetUp s
    else
      match s.setUpVariant with
      | none => .fault .noActiveVariant
      | some v => .next ((s.emit (.callEnableDma v)).setInitialised true)

/-- DISABLE (R134): legal in every state; it does not abort a transmission in flight. -/
def execDisable (s : State) : Host.Outcome State Fault Refusal :=
  whenRunning s <| .next ((s.setInitialised false).emit .callDisable)

/-- START_REPEATING (R135). -/
def execStartRepeating (s : State) : Host.Outcome State Fault Refusal :=
  whenRunning s <| .next (s.setRepeating true)

/-- STOP_REPEATING (R135). -/
def execStopRepeating (s : State) : Host.Outcome State Fault Refusal :=
  whenRunning s <| .next (s.setRepeating false)

/-- UPDATE_DATA `v, id` (R136): the checks in ascending code order (R202), then the new buffer. -/
def execUpdateData (v : Variant) (id : List Byte) (s : State) : Host.Outcome State Fault Refusal :=
  whenRunning s <| whenNotHeld s <|
    match encodeId s.cfg id v with
    | .error c => raiseFault c s
    | .ok buf =>
      if !s.setupDone then raiseFault .notSetUp s
      else if !s.namesActive v then raiseFault .variantMismatch s
      else if s.txBusy && s.cfg.updatePolicy == .fault then raiseFault .bufferHazard s
      else .next (s.waitForComplete.loadBuffer buf)

/-- TRANSMIT_ONCE `v` (R138): a guarded no-op while disabled or not ready; the variant is checked only when it would transmit. -/
def execTransmitOnce (v : Variant) (s : State) : Host.Outcome State Fault Refusal :=
  whenRunning s <|
    if !s.initialised then .next s
    else if !s.pollReady then .next s
    else if !s.namesActive v then raiseFault .variantMismatch s
    else .next (issueTransmit v s)

end Sys2Proof.Machine
end

