-- ==== Sys2Proof/Machine/Scheduler.lean ====
section
/-!
DEFINITION. The repeat scheduler: TICK (42_scheduler.md R160 to R166).
-/

namespace Sys2Proof.Machine

/-- `JITTER_TABLE[i]`; none at index 15, which "cannot arise" (R30, R50). -/
def jitterAt (i : BitVec 4) : Option Nat := jitterTable[i.toNat]?

/-- `(JITTER_INDEX + 1) mod 15` (R164). -/
def nextJitterIndex (i : BitVec 4) : BitVec 4 := BitVec.ofNat 4 ((i.toNat + 1) % jitterLen)

/-- `NEXT_FIRE_AT <- now +32 interval` (R164, R165). -/
def State.setDeadline (now : Time) (interval : Nat) (s : State) : State :=
  { s with nextFireAt := now + BitVec.ofNat 32 interval }

/-- `JITTER_INDEX <- (JITTER_INDEX + 1) mod 15` (R164). -/
def State.advanceJitter (s : State) : State := { s with jitterIndex := nextJitterIndex s.jitterIndex }

/-- The schedule of a due tick under low power: the fixed interval; the index moves only under `LOWPOWER_ADVANCES_JITTER`
(R165). -/
def scheduleLowRate (now : Time) (s : State) : State :=
  let t := s.setDeadline now s.cfg.lowRateInterval
  if s.cfg.lowPowerAdvancesJitter then t.advanceJitter else t

/-- The interval of a jitter value: `4500 + 1000·j` (R164). -/
def jitterInterval (j : Nat) : Nat := baseInterval + jitterUnit * j

/-- The schedule of a normal due tick with jitter value `j` (R164). -/
def scheduleJitter (now : Time) (j : Nat) (s : State) : State := s.advanceJitter.setDeadline now (jitterInterval j)

/-- TICK `v, now` (R160): the gates, readiness, the due check, the variant, the schedule, the trigger, in that order. -/
def execTick (v : Variant) (now : Time) (s : State) : Host.Outcome State Fault Refusal :=
  whenRunning s <|
    if !s.gatesOpen then .next s
    else if !s.pollReady then .next s
    else if !isDue now s.nextFireAt then .next s
    else if !s.namesActive v then raiseFault .variantMismatch s
    else if s.sampleLowPower then .next (issueTransmit v (scheduleLowRate now s))
    else
      match jitterAt s.jitterIndex with
      | none => .fault .jitterIndexOutOfTable
      | some j => .next (issueTransmit v (scheduleJitter now j s))

end Sys2Proof.Machine
end

