-- ==== Sys2Proof/Machine/Dispatch.lean ====
section
/-!
DEFINITION. One arm per command of spec/opcode_table.json.
-/

namespace Sys2Proof.Machine

def exec (i : Instr) (s : State) : Host.Outcome State Fault Refusal :=
  match i with
  | .init v id => Sys2Proof.Machine.execInit v id s
  | .enable => Sys2Proof.Machine.execEnable s
  | .disable => Sys2Proof.Machine.execDisable s
  | .startRepeating => Sys2Proof.Machine.execStartRepeating s
  | .stopRepeating => Sys2Proof.Machine.execStopRepeating s
  | .updateData v id => Sys2Proof.Machine.execUpdateData v id s
  | .transmitOnce v => Sys2Proof.Machine.execTransmitOnce v s
  | .tick v now => Sys2Proof.Machine.execTick v now s

end Sys2Proof.Machine
end

