-- ==== Sys2Proof/Machine/Inputs.lean ====
section
/-!
DEFINITION. What the machine does next: the host's commands (10_state.md R21), the transport's completion (43_transport.md
R191) and reset (70_reset_and_hazards.md R230), taken from the list of inputs; and how a command is delivered.
-/

namespace Sys2Proof.Machine

/-- What a step turns out to be: running a command, a move of another agent (or of nobody), or no step at all. -/
inductive Selected where
  | execute (i : Instr) (s : State)
  | moved (s : State)
  | stuck (r : Fault)
deriving DecidableEq, Repr

/-- The command a request delivers: a frame is decoded (R76), a typed command is taken as it is (R82). -/
def Request.instr (c : Config) : Request → Except Cause Instr
  | .frame f => decode c f
  | .typed i => .ok i

/-- Take the oldest input, a command, with the lines at the values it will draw (R33). -/
def State.present (d : Draws) (rest : List Input) (s : State) : State :=
  { s with hwReady := d.hwReady, lowPower := d.lowPower, inputs := rest }

/-- Drop the oldest input (R58). -/
def State.dropInput (rest : List Input) (s : State) : State := { s with inputs := rest }

/-- A command that holds until the transmission in flight completes (R131, R136). -/
def holds (s : State) : Instr → Bool
  | .init _ _ | .updateData _ _ => s.holdsBuffer
  | .enable | .disable | .startRepeating | .stopRepeating | .transmitOnce _ | .tick _ _ => false

/-- A command that has no step stays where it is. The transport's step, if enabled, is then the only one (R191, R203); if it is
not, nothing can move (R203): log entries 4 and 8. DESIGN CHOICE (log entry 18), safe: what becomes of the command when a reset
follows it is open; it stays at the head, so a reset listed behind it is not reached. -/
def blocked (s : State) : Selected := if s.txBusy then .moved (completeTx s) else .stuck .halted

/-- A command's turn: halted, faulting in the decoder (R76, R200; not held, log entry 12), held, or run. -/
def selectCommand (r : Request) (d : Draws) (rest : List Input) (s : State) : Selected :=
  if s.isHalted then blocked s
  else
    match r.instr s.cfg with
    | .error c => .moved ((s.present d rest).recordFault c)
    | .ok i => if holds s i then blocked s else .execute i (s.present d rest)

/-- What the machine does next. With no input left, the transport completes if it is busy (R191) and else the block "waits for
the first command" (R231): log entry 4. A completion while idle is no step of the transport and changes nothing (log entry 11).
Reset puts block and transport in the values of R230 and leaves the parameters (R38, log entry 10). -/
def select (s : State) : Selected :=
  match s.inputs with
  | [] => .moved (transportStep s)
  | .reset :: rest => .moved (State.resetWith s.cfg rest)
  | .txComplete :: rest => .moved (transportStep (s.dropInput rest))
  | .command r d :: rest => selectCommand r d rest s

/-- Put one frame in front of the inputs, the lines it draws as they stand. -/
def State.queueFrame (f : Frame) (s : State) : State :=
  { s with inputs := .command (.frame f) ⟨s.hwReady, s.lowPower⟩ :: s.inputs }

end Sys2Proof.Machine
end

