-- ==== Sys2Proof/Machine/Step.lean ====
section
/-!
DEFINITION. One step of the machine: what the inputs select, and the command's meaning if it is a command.
-/

namespace Sys2Proof.Machine

/-- One step: the selected agent moves (20_memory.md R58). -/
def step (s : State) : Host.Outcome State Fault Refusal :=
  match select s with
  | .execute i t => exec i t
  | .moved t => .next t
  | .stuck r => .fault r

/-- The frame of a table word, as the next command the host issues. -/
def State.withFetchWord (s : State) (nbits w : Nat) : State := s.queueFrame (frameOfTableWord nbits w)

end Sys2Proof.Machine
end

