-- ==== Sys2Proof/Safety.lean ====
section
/-!
DEFINITION. What a safe run is, in the terms the statements use: the invariant of reachable states (10_state.md R35), the
lifecycle views (R34), the end of a run (70_reset_and_hazards.md R247).
-/

namespace Sys2Proof.Machine

/-- Whether a transmission is in flight after a list of events, started from `busy`; none if one is requested while another is in
flight, or one completes that was never requested (R35 d). -/
def flightAfter (busy : Bool) : List TraceEvent → Option Bool
  | [] => some busy
  | .callTransmit _ _ :: es => if busy then none else flightAfter true es
  | .complete :: es => if busy then flightAfter false es else none
  | .callInitialize _ :: es => flightAfter busy es
  | .callEnableDma _ :: es => flightAfter busy es
  | .callDisable :: es => flightAfter busy es
  | .callLoadBuffer _ :: es => flightAfter busy es
  | .callWaitForComplete :: es => flightAfter busy es

/-- The last `Transmit` event of a trace, starting from the one before it. -/
def lastTransmitFrom (last : Option (Variant × List Nat)) : List TraceEvent → Option (Variant × List Nat)
  | [] => last
  | .callTransmit v buf :: es => lastTransmitFrom (some (v, buf)) es
  | .complete :: es => lastTransmitFrom last es
  | .callInitialize _ :: es => lastTransmitFrom last es
  | .callEnableDma _ :: es => lastTransmitFrom last es
  | .callDisable :: es => lastTransmitFrom last es
  | .callLoadBuffer _ :: es => lastTransmitFrom last es
  | .callWaitForComplete :: es => lastTransmitFrom last es

/-- "The last `Transmit` event" of a trace (R35 f). -/
def lastTransmit (tr : List TraceEvent) : Option (Variant × List Nat) := lastTransmitFrom none tr

/-- A buffer that an encoder could have made for `v`: `LEN(v)` entries, each `MARK(v)` or `SPACE` (R29, R101, R106). -/
def isBufferOf (c : Config) (v : Variant) (buf : List Nat) : Prop :=
  buf.length = v.bufferLen ∧ ∀ w ∈ buf, w = c.mark v ∨ w = space

/-- What holds in every reachable state (R35), with what the registers' own rules add (R27, R28, R31). -/
structure StateInv (s : State) : Prop where
  /-- The parameters are admissible (R7). -/
  config : s.cfg.wf
  /-- R35 (a). -/
  enabled : s.initialised = true → s.setupDone = true
  /-- R35 (b): `ACTIVE_VARIANT` names a variant and `PULSE_BUF` is a buffer of it. -/
  setUp : s.setupDone = true → ∃ v, s.activeVariant = s.cfg.codeOf v ∧ isBufferOf s.cfg v s.pulseBuf
  /-- R35 (c), R27. -/
  jitter : s.jitterIndex.toNat < jitterLen
  /-- R35 (d): requests and completions alternate, and `TX_BUSY` is what they leave. -/
  oneInFlight : flightAfter false s.trace = some s.txBusy
  /-- R35 (e). -/
  inFlight : s.txBusy = true → s.setupDone = true ∧ ∃ v, s.txVariant = some v ∧ s.activeVariant = s.cfg.codeOf v
  /-- R31, R191: no variant while idle. -/
  idle : s.txBusy = false → s.txVariant = none
  /-- R31: a snapshot exists only under `DOUBLE_BUFFER`, while busy. -/
  snapshot : s.txSnapshot.isSome = (s.txBusy && s.cfg.updatePolicy == .doubleBuffer)
  /-- R35 (f), and R59 for `DOUBLE_BUFFER`: what is replayed is the buffer of the last `Transmit` event. -/
  replays : s.txBusy = true → ∃ v, s.txVariant = some v ∧ lastTransmit s.trace = some (v, s.replayed)
  /-- "Codes 8 to 255 are never written" (R201). -/
  cause : s.faultCause.toNat ≤ 7

/-- The lifecycle states of the source (R34). -/
inductive Lifecycle where
  | uninitialized
  | initialized
  | armed
  | transmitting
deriving DecidableEq, Repr

/-- The lifecycle state as a view of the registers (R34). -/
def State.lifecycle (s : State) : Lifecycle :=
  if s.txBusy then .transmitting
  else if !s.setupDone then .uninitialized
  else if s.initialised then .armed
  else .initialized

/-- The run has ended well: no command left, no transmission in flight, no fault (R247). -/
def State.atRest (s : State) : Bool := s.inputs.isEmpty && !s.txBusy && !s.isHalted

/-- The events a step added to the trace. -/
def newEvents (s t : State) : List TraceEvent := t.trace.drop s.trace.length

/-- A change of the next state, stops left as they are. -/
def onNext (f : State → State) (o : Host.Outcome State Fault Refusal) : Host.Outcome State Fault Refusal :=
  match o with
  | .next t => .next (f t)
  | .fault r => .fault r
  | .refused r => .refused r

/-- The call a command makes first under `UPDATE_POLICY = WAIT` (R195). -/
def waitEvents (c : Config) : List TraceEvent := if c.updatePolicy = .wait then [.callWaitForComplete] else []

/-- A TICK that would fire: gates open, transport ready, window reached, variant as set up (R160 to R162, R172). -/
def tickFires (v : Variant) (now : Time) (s : State) : Bool :=
  !s.isHalted && s.initialised && s.repeating && s.pollReady && isDue now s.nextFireAt && s.namesActive v

/-- A transmission requested: the registers and the trace after the transmit path (R133, R190), all else as in `s`. -/
def sent (v : Variant) (s : State) : State :=
  { s with
    txBusy := true
    txVariant := some v
    txSnapshot := if s.cfg.updatePolicy = .doubleBuffer then some s.pulseBuf else s.txSnapshot
    trace := s.trace ++ [.callTransmit v s.pulseBuf] }

/-- The number of 1 bits of an identifier (R109). -/
def popcount (id : List Byte) : Nat := (id.map (fun x => (List.range 8).countP (fun k => x.getLsbD k))).sum

/-- The transport would answer `isReady()` with true: idle, and drawn ready if `READY_MODEL = DRAW` (R33). -/
abbrev State.ready (s : State) : Prop := s.txBusy = false ∧ (s.cfg.readyModel = .draw → s.hwReady = true)

/-- The transport would answer `isReady()` with false (R33). -/
abbrev State.notReady (s : State) : Prop := s.txBusy = true ∨ (s.cfg.readyModel = .draw ∧ s.hwReady = false)

/-- The byte indices a command's frame uses (R71, R75). -/
def usesByte (i : Instr) (k : Nat) : Bool :=
  match i with
  | .init v _ => decide (k ≤ 1 + v.dataLen)
  | .updateData v _ => decide (k ≤ 1 + v.dataLen)
  | .transmitOnce _ => decide (k ≤ 1)
  | .tick _ _ => decide (k ≤ 1) || decide (12 ≤ k)
  | .enable => decide (k = 0)
  | .disable => decide (k = 0)
  | .startRepeating => decide (k = 0)
  | .stopRepeating => decide (k = 0)

/-- `n` ticks, each exactly at the deadline, the transmission completing in between (R171). -/
def fireAtDeadlines (v : Variant) : Nat → State → Option State
  | 0, s => some s
  | n + 1, s =>
    match exec (.tick v s.nextFireAt) s with
    | .next t => fireAtDeadlines v n (completeTx t)
    | .fault _ => none
    | .refused _ => none

end Sys2Proof.Machine
end

