-- ==== Sys2Proof/Certificates/Slice0/Obligations.lean ====
section
/-!
DEFINITION. The statements for the provers, each with the rule of spec/ it formalises.
-/

open Sys2Proof Sys2Proof.Machine

/-! ### Reset, parameters, invariant -/

/-- R230: the values the spec states for reset, in `State.reset` and after a reset in any state, faulted or busy. That the parameters
and the inputs still to come stay is the model's reading (log entries 5 and 10). `ACTIVE_VARIANT` and `PULSE_BUF` have "no value"
there; what the model holds in them (log entry 1) is not stated. -/
def Obligations.ResetLeavesTheStatedValues : Prop :=
  (∀ (s : State) (rest : List Input), s.inputs = .reset :: rest →
    ∃ t, step s = .next t ∧ t.cfg = s.cfg ∧ t.inputs = rest) ∧
  (∀ t : State, (t = State.reset ∨ ∃ s rest, s.inputs = .reset :: rest ∧ step s = .next t) →
    t.initialised = false ∧ t.repeating = false ∧ t.setupDone = false ∧ t.nextFireAt = 0 ∧ t.jitterIndex = 0 ∧
      t.faultCause = 0 ∧ t.txBusy = false ∧ t.txVariant = none ∧ t.txSnapshot = none ∧ t.trace = [])

/-- R35 at reset, whatever the OPEN parameters are (their form is log entry 6) and whatever the outside world does next (R7, R231). -/
def Obligations.ResetMeetsTheInvariant : Prop :=
  Config.default.wf ∧ StateInv State.reset ∧ ∀ (c : Config) (rest : List Input), c.wf → StateInv (State.resetWith c rest)

/-- R35: every step, of any agent, keeps the invariant. -/
def Obligations.StepKeepsTheInvariant : Prop :=
  ∀ s t : State, StateInv s → step s = .next t → StateInv t

/-- R35: what holds in every reachable state, for every admissible configuration and every behaviour of the outside world. -/
def Obligations.ReachableStatesMeetTheInvariant : Prop :=
  ∀ (c : Config) (inputs : List Input) (n : Nat) (t : State), c.wf →
    core.run n (State.resetWith c inputs) = .next t → StateInv t

/-- R38: the parameters are not state; no step changes them. That State carries them is the model's choice (log entry 5). -/
def Obligations.NoStepChangesTheConfiguration : Prop :=
  ∀ s t : State, step s = .next t → t.cfg = s.cfg

/-! ### Encoding -/

/-- R70 to R76: decoding the frame of a well-formed command gives the command back, under every admissible configuration. -/
def Obligations.DecodeOfEncodeIsTheCommand : Prop :=
  ∀ (c : Config) (i : Instr), c.wf → i.wellFormed = true → decode c (encode c i) = .ok i

/-- R75, R76: a frame the decoder accepts is a well-formed command's one frame; "A frame that decodes cleanly never produces
`ID_LENGTH_MISMATCH`". -/
def Obligations.AcceptedFramesAreCanonical : Prop :=
  ∀ (c : Config) (f : Frame) (i : Instr), decode c f = .ok i → i.wellFormed = true ∧ encode c i = f

/-- R71, R72, R74: frames written out byte by byte from the spec's encoding (95_test_vectors.md DEC10 to DEC16, P1). -/
def Obligations.WrittenOutFramesDecode : Prop :=
  decodeBytes Config.default [0x08, 0x01, 0, 0, 0, 0, 0, 0, 0, 0, 0, 0, 0xFF, 0xFF, 0xFF, 0xFF] = .ok (.tick .alt 0xFFFFFFFF) ∧
  decodeBytes Config.default [0x08, 0x00, 0, 0, 0, 0, 0, 0, 0, 0, 0, 0, 0x78, 0x56, 0x34, 0x12] = .ok (.tick .std 0x12345678) ∧
  decodeBytes Config.default [0x01, 0x01, 0x1F, 0xFC, 0x8F, 0x03, 0xF0, 0x01, 0xF8, 0x1F, 0x00, 0, 0, 0, 0, 0] =
    .ok (.init .alt [0x1F, 0xFC, 0x8F, 0x03, 0xF0, 0x01, 0xF8, 0x1F, 0x00]) ∧
  decodeBytes Config.default [0x06, 0x00, 0xA5, 0, 0, 0, 0, 0x01, 0, 0, 0, 0, 0, 0, 0, 0] =
    .ok (.updateData .std [0xA5, 0, 0, 0, 0, 0x01]) ∧
  decodeBytes Config.default [0x07, 0x01, 0, 0, 0, 0, 0, 0, 0, 0, 0, 0, 0, 0, 0, 0] = .ok (.transmitOnce .alt) ∧
  decodeBytes Config.default [0x02, 0, 0, 0, 0, 0, 0, 0, 0, 0, 0, 0, 0, 0, 0, 0] = .ok .enable ∧
  decodeBytes Config.default [0x05, 0, 0, 0, 0, 0, 0, 0, 0, 0, 0, 0, 0, 0, 0, 0] = .ok .stopRepeating

/-- R77: exactly opcodes 0x00 and 0x09 to 0xFF are reserved, and a frame with one faults before any other check. -/
def Obligations.ReservedOpcodesFault : Prop :=
  ∀ (c : Config) (f : Frame), decode c f = .error .reservedCommand ↔ (f.op.toNat = 0 ∨ 9 ≤ f.op.toNat)

/-- R73: the selector codes, by default and as parameters; any other selector faults in exactly the commands that use `VAR`. -/
def Obligations.ReservedSelectorsFault : Prop :=
  (∀ c : Config, c.wf → ∀ v, c.variantOf (c.codeOf v) = some v) ∧
  Config.default.variantOf 0x00 = some .std ∧ Config.default.variantOf 0x01 = some .alt ∧
  (∀ b : Byte, 2 ≤ b.toNat → Config.default.variantOf b = none) ∧
  (∀ (c : Config) (f : Frame), decode c f = .error .badVariant ↔
    (f.op = 0x01 ∨ f.op = 0x06 ∨ f.op = 0x07 ∨ f.op = 0x08) ∧ f.var ≠ c.codeStd ∧ f.var ≠ c.codeAlt)

/-- R75: every byte outside the command's used fields is 0 in an accepted frame, and a frame that names a command with a nonzero
byte outside them faults. -/
def Obligations.NonzeroReservedBytesFault : Prop :=
  (∀ (c : Config) (f : Frame) (i : Instr), decode c f = .ok i → ∀ k, k < 16 → usesByte i k = false → f.byte k = 0) ∧
  (∀ (c : Config) (f : Frame) (i : Instr), c.wf → i.wellFormed = true →
    (∀ k, k < 16 → usesByte i k = true → f.byte k = (encode c i).byte k) →
    (∃ k, k < 16 ∧ usesByte i k = false ∧ f.byte k ≠ 0) → decode c f = .error .reservedField)

/-- R72: the timestamp of an accepted TICK frame is its `NOW` field read little-endian, unsigned, with no extension; with the
rule's example. -/
def Obligations.TimestampFieldIsLittleEndian : Prop :=
  (∀ (c : Config) (f : Frame) (v : Variant) (now : Time), decode c f = .ok (.tick v now) →
    now.toNat = (f.byte 12).toNat + 256 * (f.byte 13).toNat + 65536 * (f.byte 14).toNat + 16777216 * (f.byte 15).toNat) ∧
  decodeBytes Config.default [0x08, 0x01, 0, 0, 0, 0, 0, 0, 0, 0, 0, 0, 0xE8, 0x03, 0x00, 0x00] = .ok (.tick .alt 1000)

/-- R80, over tokens, which is the model's choice (log entry 13): assembling the line a well-formed command is written as gives the
command; a wrong number of identifier bytes, a byte above 0xFF or a `now` above 2^32-1 is refused. -/
def Obligations.AssemblerReadsWhatIsWritten : Prop :=
  (∀ i : Instr, i.wellFormed = true → assemble (disassemble i) = some i) ∧
  (∀ (v : Variant) (ops : List AsmOperand), (ops.length ≠ v.dataLen ∨ ∃ n, 0xFF < n ∧ AsmOperand.number n ∈ ops) →
    assemble ⟨"INIT", .variant v :: ops⟩ = none ∧ assemble ⟨"UPDATE_DATA", .variant v :: ops⟩ = none) ∧
  (∀ (v : Variant) (n : Nat), 2 ^ 32 ≤ n → assemble ⟨"TICK", [.variant v, .number n]⟩ = none)

/-! ### The step -/

/-- R11, R76, R82: a command delivered to a block that has not faulted runs as its meaning, on the state with the input taken and
the lines at the values the command draws; a command that holds is the subject of `HeldCommandWaitsForTheCompletion`. The list of
inputs and the lines are the model's choice (log entries 2 and 3). -/
def Obligations.StepRunsTheDeliveredCommand : Prop :=
  ∀ (s : State) (d : Draws) (rest : List Input) (i : Instr), s.faultCause = 0 →
    (s.cfg.updatePolicy ≠ .wait ∨ s.txBusy = false ∨ (i.opcode ≠ .init ∧ i.opcode ≠ .updateData)) →
    (∀ f : Frame, s.inputs = .command (.frame f) d :: rest → decode s.cfg f = .ok i →
      step s = exec i { s with hwReady := d.hwReady, lowPower := d.lowPower, inputs := rest }) ∧
    (s.inputs = .command (.typed i) d :: rest →
      step s = exec i { s with hwReady := d.hwReady, lowPower := d.lowPower, inputs := rest })

/-- The model's choice, of the spec only the decoder (R76) and the meaning: the spec has no fetch (R62). A table word's reading as a
frame is log entry 7, placing it as the next command is log entry 2; the word so placed is the command the next step runs, on the
state it was placed in. -/
def Obligations.StepRunsThePlacedWord : Prop :=
  ∀ (s : State) (nbits w : Nat) (i : Instr), s.cfg = Config.default → s.faultCause = 0 →
    decodeTableWord nbits w = some i → step (s.withFetchWord nbits w) = exec i s

/-- R76, R200: a frame that faults in the decoder records the cause and changes nothing else. That it is recorded at once, and not
held, also during a transmission under `UPDATE_POLICY = WAIT` is the model's inference (log entry 12). -/
def Obligations.DecodeFaultIsRecorded : Prop :=
  ∀ (s : State) (f : Frame) (d : Draws) (rest : List Input) (c : Cause), s.faultCause = 0 →
    s.inputs = .command (.frame f) d :: rest → decode s.cfg f = .error c →
    step s = .next { s with faultCause := c.code, hwReady := d.hwReady, lowPower := d.lowPower, inputs := rest } ∧
      (c.code = 1 ∨ c.code = 2 ∨ c.code = 3)

/-- R131, R136, R195, R240: under `UPDATE_POLICY = WAIT`, INIT and UPDATE_DATA delivered while a transmission is in flight have
no step; the transport completes, the command stays, and the step after it runs the command. The stop of the meaning and the place
of the completion are the model's (log entries 8 and 4). -/
def Obligations.HeldCommandWaitsForTheCompletion : Prop :=
  ∀ (s : State) (r : Request) (d : Draws) (rest : List Input) (i : Instr), s.faultCause = 0 →
    s.inputs = .command r d :: rest → r.instr s.cfg = .ok i → (i.opcode = .init ∨ i.opcode = .updateData) →
    s.cfg.updatePolicy = .wait → s.txBusy = true →
    exec i s = .fault .held ∧
    ∃ t, step s = .next t ∧
      t = { s with txBusy := false, txVariant := none, txSnapshot := none, trace := s.trace ++ [.complete] } ∧
      step t = exec i { t with hwReady := d.hwReady, lowPower := d.lowPower, inputs := rest }

/-- R203: a block that has faulted takes no command; the transport still completes; only reset clears the fault; the run has not
ended well. The stop, the place of the completion, and that a command stays in front of what follows it, a reset among it, are the
model's (log entries 8, 4 and 18). -/
def Obligations.HaltedBlockTakesNoCommand : Prop :=
  ∀ s : State, s.faultCause ≠ 0 →
    (∀ i, exec i s = .fault .halted) ∧
    (∀ r d rest, s.inputs = .command r d :: rest → s.txBusy = false → step s = .fault .halted) ∧
    (∀ r d rest, s.inputs = .command r d :: rest → s.txBusy = true →
      step s = .next { s with txBusy := false, txVariant := none, txSnapshot := none, trace := s.trace ++ [.complete] }) ∧
    (∀ rest, s.inputs = .txComplete :: rest → s.txBusy = true → ∃ t, step s = .next t ∧ t.txBusy = false ∧
      t.trace = s.trace ++ [.complete] ∧ t.faultCause = s.faultCause) ∧
    (∀ t, step s = .next t → (∀ rest, s.inputs ≠ .reset :: rest) → t.faultCause = s.faultCause) ∧
    (∀ rest, s.inputs = .reset :: rest → ∃ t, step s = .next t ∧ t.faultCause = 0) ∧
    s.atRest = false

/-- R191: the transport's own step, enabled exactly while busy: at its place among the inputs, and when nothing else is left to
happen (the last clauses, and that an idle block waits, R231, are log entry 4's reading). -/
def Obligations.TransportCompletes : Prop :=
  ∀ (s : State) (rest : List Input),
    (s.inputs = .txComplete :: rest → s.txBusy = true →
      step s = .next { s with txBusy := false, txVariant := none, txSnapshot := none, trace := s.trace ++ [.complete],
                              inputs := rest }) ∧
    (s.inputs = .txComplete :: rest → s.txBusy = false → step s = .next { s with inputs := rest }) ∧
    (s.inputs = [] → s.txBusy = true →
      step s = .next { s with txBusy := false, txVariant := none, txSnapshot := none, trace := s.trace ++ [.complete] }) ∧
    (s.inputs = [] → s.txBusy = false → step s = .next s)

/-- R134, R191, R192: no command ends a transmission in flight, or changes its variant or its snapshot: "There is no
cancellation". -/
def Obligations.NoCommandEndsATransmission : Prop :=
  ∀ (i : Instr) (s t : State), exec i s = .next t → s.txBusy = true →
    t.txBusy = true ∧ t.txVariant = s.txVariant ∧ t.txSnapshot = s.txSnapshot ∧
    TraceEvent.complete ∉ newEvents s t ∧ ∀ v buf, TraceEvent.callTransmit v buf ∉ newEvents s t

/-- R203, R35: from a state that meets the invariant no instruction is refused, and the only step there is not is a command's on
a halted block with an idle transport, whatever follows it (the stop and this last are log entries 8 and 18, the model's). -/
def Obligations.StepStopsExactlyWhenHalted : Prop :=
  ∀ s : State, StateInv s → (∀ r, step s ≠ .refused r) ∧
    ∀ r, step s = .fault r ↔
      (r = .halted ∧ s.faultCause ≠ 0 ∧ s.txBusy = false ∧ ∃ q d rest, s.inputs = .command q d :: rest)

/-- R191: a transmission in flight completes after finitely many steps. The bound, at most one more than there are inputs left, rests
on the model's choice of where a completion stands (log entry 4). -/
def Obligations.TransmissionInFlightCompletes : Prop :=
  ∀ s : State, StateInv s → s.txBusy = true →
    ∃ (k : Nat) (t : State), k ≤ s.inputs.length + 1 ∧ core.run k s = .next t ∧ t.txBusy = false

/-- R245, R247, under the model's choices of log entries 4 and 18: whatever finite list of things the outside world does, the machine
comes to a state with no input left and no transmission in flight, where the block waits (log entry 4), or to a halted block that a
command waits for (log entry 18). -/
def Obligations.FiniteRunsComeToRestOrHalt : Prop :=
  ∀ s : State, StateInv s → ∃ (k : Nat) (t : State), k ≤ 2 * s.inputs.length + 1 ∧ core.run k s = .next t ∧
    ((t.inputs = [] ∧ t.txBusy = false ∧ step t = .next t) ∨ (t.faultCause ≠ 0 ∧ step t = .fault .halted))

/-! ### Faults -/

/-- R200, R204: a fault is precise, and it is recorded only while none is. -/
def Obligations.FaultsArePrecise : Prop :=
  ∀ (i : Instr) (s t : State), exec i s = .next t → t.faultCause ≠ 0 →
    s.faultCause = 0 ∧ t = { s with faultCause := t.faultCause }

/-- R201: which codes each command can record. -/
def Obligations.CommandsRecordTheirOwnCodes : Prop :=
  ∀ (i : Instr) (s t : State), exec i s = .next t → t.faultCause ≠ 0 →
    (i.opcode = .init ∧ (t.faultCause = 4 ∨ t.faultCause = 7)) ∨
    (i.opcode = .enable ∧ t.faultCause = 5) ∨
    (i.opcode = .updateData ∧ (t.faultCause = 4 ∨ t.faultCause = 5 ∨ t.faultCause = 6 ∨ t.faultCause = 7)) ∨
    ((i.opcode = .transmitOnce ∨ i.opcode = .tick) ∧ t.faultCause = 6)

/-- R206, R167: the guarded no-ops leave the whole state as it was. -/
def Obligations.GuardedNoOpsChangeNothing : Prop :=
  ∀ (v : Variant) (now : Time) (s : State), s.faultCause = 0 →
    (s.initialised = false ∨ s.notReady → exec (.transmitOnce v) s = .next s) ∧
    (s.initialised = false ∨ s.repeating = false ∨ s.notReady ∨ 2 ^ 31 ≤ (now - s.nextFireAt).toNat →
      exec (.tick v now) s = .next s)

/-! ### Controller commands -/

/-- R131: INIT on an idle transport, with an identifier of the variant's length. -/
def Obligations.InitSetsUpAndLoadsTheBuffer : Prop :=
  ∀ (v : Variant) (id : List Byte) (s : State), s.faultCause = 0 → s.txBusy = false → id.length = v.dataLen →
    exec (.init v id) s = .next
      { s with
        initialised := false
        setupDone := true
        activeVariant := s.cfg.codeOf v
        pulseBuf := encodeBytes s.cfg v id
        trace := s.trace ++ (if s.cfg.updatePolicy = .wait then [.callWaitForComplete] else []) ++
          [.callInitialize v, .callLoadBuffer (encodeBytes s.cfg v id)] }

/-- R131, R102, R240: INIT's faults and its hold. That a held INIT is not yet checked for its faults, and the stop that the hold is,
are the model's inferences (log entries 12 and 8). -/
def Obligations.InitFaultsOnLengthThenHazard : Prop :=
  ∀ (v : Variant) (id : List Byte) (s : State), s.faultCause = 0 →
    ((s.cfg.updatePolicy ≠ .wait ∨ s.txBusy = false) → id.length ≠ v.dataLen →
      exec (.init v id) s = .next { s with faultCause := 4 }) ∧
    (s.cfg.updatePolicy ≠ .wait → s.txBusy = true → id.length = v.dataLen →
      exec (.init v id) s = .next { s with faultCause := 7 }) ∧
    (s.cfg.updatePolicy = .wait → s.txBusy = true → exec (.init v id) s = .fault .held)

/-- R132: ENABLE after INIT opens the gate and arms the transport for the variant set up; before any INIT it faults. -/
def Obligations.EnableOpensTheGateAfterInit : Prop :=
  (∀ (v : Variant) (s : State), s.cfg.wf → s.faultCause = 0 → s.setupDone = true → s.activeVariant = s.cfg.codeOf v →
    exec .enable s = .next { s with initialised := true, trace := s.trace ++ [.callEnableDma v] }) ∧
  (∀ s : State, s.faultCause = 0 → s.setupDone = false → exec .enable s = .next { s with faultCause := 5 })

/-- R134: DISABLE closes the gate in every state, and aborts nothing. -/
def Obligations.DisableClosesTheGate : Prop :=
  ∀ s : State, s.faultCause = 0 →
    exec .disable s = .next { s with initialised := false, trace := s.trace ++ [.callDisable] }

/-- R135: START_REPEATING and STOP_REPEATING, in every state, write the repeat gate and make no call. -/
def Obligations.RepeatGateFollowsStartAndStop : Prop :=
  ∀ s : State, s.faultCause = 0 →
    exec .startRepeating s = .next { s with repeating := true } ∧ exec .stopRepeating s = .next { s with repeating := false }

/-- R136: UPDATE_DATA for the variant set up replaces the whole buffer, also during a transmission under `DOUBLE_BUFFER`. -/
def Obligations.UpdateDataReplacesTheBuffer : Prop :=
  ∀ (v : Variant) (id : List Byte) (s : State), s.faultCause = 0 → id.length = v.dataLen → s.setupDone = true →
    s.activeVariant = s.cfg.codeOf v → (s.txBusy = false ∨ s.cfg.updatePolicy = .doubleBuffer) →
    exec (.updateData v id) s = .next
      { s with
        pulseBuf := encodeBytes s.cfg v id
        trace := s.trace ++ (if s.cfg.updatePolicy = .wait then [.callWaitForComplete] else []) ++
          [.callLoadBuffer (encodeBytes s.cfg v id)] }

/-- R136, R202: UPDATE_DATA's faults, the lowest code first, and its hold before any of them; that the hold comes first, and the stop
that it is, are the model's inferences (log entries 12 and 8). -/
def Obligations.UpdateDataFaultsLowestCodeFirst : Prop :=
  ∀ (v : Variant) (id : List Byte) (s : State), s.faultCause = 0 →
    (s.cfg.updatePolicy = .wait → s.txBusy = true → exec (.updateData v id) s = .fault .held) ∧
    ((s.cfg.updatePolicy ≠ .wait ∨ s.txBusy = false) →
      (id.length ≠ v.dataLen → exec (.updateData v id) s = .next { s with faultCause := 4 }) ∧
      (id.length = v.dataLen → s.setupDone = false → exec (.updateData v id) s = .next { s with faultCause := 5 }) ∧
      (id.length = v.dataLen → s.setupDone = true → s.activeVariant ≠ s.cfg.codeOf v →
        exec (.updateData v id) s = .next { s with faultCause := 6 }) ∧
      (id.length = v.dataLen → s.setupDone = true → s.activeVariant = s.cfg.codeOf v → s.txBusy = true →
        s.cfg.updatePolicy = .fault → exec (.updateData v id) s = .next { s with faultCause := 7 }))

/-- R137: two UPDATE_DATA commands with the same operands, wherever they run, leave the same buffer and append equal `LoadBuffer`
events; and a second one right after the first succeeds. -/
def Obligations.RepeatedUpdateDataIsIdempotent : Prop :=
  ∀ (v : Variant) (id : List Byte) (s t s' t' : State), s'.cfg = s.cfg → exec (.updateData v id) s = .next t →
    t.faultCause = 0 → exec (.updateData v id) s' = .next t' → (t'.faultCause = 0 →
      t'.pulseBuf = t.pulseBuf ∧ newEvents s' t' = newEvents s t ∧ TraceEvent.callLoadBuffer t.pulseBuf ∈ newEvents s t) ∧
    (s' = t → t'.faultCause = 0)

/-- R138, R133, R190: TRANSMIT_ONCE, enabled and ready, for the variant set up. -/
def Obligations.TransmitOnceSendsTheBuffer : Prop :=
  ∀ (v : Variant) (s : State), s.faultCause = 0 → s.initialised = true → s.ready → s.activeVariant = s.cfg.codeOf v →
    exec (.transmitOnce v) s = .next
      { s with
        txBusy := true
        txVariant := some v
        txSnapshot := if s.cfg.updatePolicy = .doubleBuffer then some s.pulseBuf else s.txSnapshot
        trace := s.trace ++ [.callTransmit v s.pulseBuf] }

/-- R138: a wrong variant faults only when a transmission would be issued. -/
def Obligations.TransmitOnceFaultsOnAnotherVariant : Prop :=
  ∀ (v : Variant) (s : State), s.faultCause = 0 → s.activeVariant ≠ s.cfg.codeOf v →
    (s.initialised = true → s.ready → exec (.transmitOnce v) s = .next { s with faultCause := 6 }) ∧
    (s.initialised = false ∨ s.notReady → exec (.transmitOnce v) s = .next s)

/-- R139: no controller command writes the schedule. -/
def Obligations.ControllerCommandsLeaveTheSchedule : Prop :=
  ∀ (i : Instr) (s t : State), i.opcode ≠ .tick → exec i s = .next t →
    t.nextFireAt = s.nextFireAt ∧ t.jitterIndex = s.jitterIndex

/-- R20: each register, and the buffer, is written only by the commands named in its row; no command touches the outside. -/
def Obligations.RegistersAreWrittenByTheirOwners : Prop :=
  ∀ (i : Instr) (s t : State), exec i s = .next t →
    (t.initialised ≠ s.initialised → i.opcode = .init ∨ i.opcode = .enable ∨ i.opcode = .disable) ∧
    (t.repeating ≠ s.repeating → i.opcode = .startRepeating ∨ i.opcode = .stopRepeating) ∧
    (t.setupDone ≠ s.setupDone → i.opcode = .init) ∧
    (t.activeVariant ≠ s.activeVariant → i.opcode = .init) ∧
    (t.nextFireAt ≠ s.nextFireAt → i.opcode = .tick) ∧
    (t.jitterIndex ≠ s.jitterIndex → i.opcode = .tick) ∧
    (t.pulseBuf ≠ s.pulseBuf → i.opcode = .init ∨ i.opcode = .updateData) ∧
    ((t.txBusy ≠ s.txBusy ∨ t.txVariant ≠ s.txVariant ∨ t.txSnapshot ≠ s.txSnapshot) →
      i.opcode = .transmitOnce ∨ i.opcode = .tick) ∧
    t.cfg = s.cfg ∧ t.inputs = s.inputs ∧ t.hwReady = s.hwReady ∧ t.lowPower = s.lowPower

/-- R32: outside a reset the trace only grows, and only by the events of the step. -/
def Obligations.TraceOnlyGrows : Prop :=
  ∀ s t : State, step s = .next t → (∀ rest, s.inputs ≠ .reset :: rest) →
    t.trace = s.trace ++ newEvents s t ∧ (newEvents s t).length ≤ 3

/-- R24: `SETUP_DONE` is 1 once INIT has completed, and never cleared except by reset. -/
def Obligations.SetUpLastsUntilReset : Prop :=
  State.reset.setupDone = false ∧
  (∀ (v : Variant) (id : List Byte) (s t : State), exec (.init v id) s = .next t → t.faultCause = 0 → t.setupDone = true) ∧
  (∀ s t : State, step s = .next t → s.setupDone = true → (∀ rest, s.inputs ≠ .reset :: rest) → t.setupDone = true)

/-- R25, R29: before INIT, nothing a command does depends on `ACTIVE_VARIANT` or on `PULSE_BUF`; so the values the model gives
them at reset (log entry 1) show in nothing. -/
def Obligations.VariantAndBufferAreUnreadBeforeInit : Prop :=
  ∀ (i : Instr) (s : State) (a : Byte) (buf : List Nat), s.setupDone = false → s.initialised = false →
    onNext (fun t => { t with activeVariant := 0, pulseBuf := [] }) (exec i { s with activeVariant := a, pulseBuf := buf }) =
      onNext (fun t => { t with activeVariant := 0, pulseBuf := [] }) (exec i s)

/-- R140: the lifecycle table, cell by cell, for states that meet the invariant and a policy that does not hold. -/
def Obligations.LifecycleFollowsTheTable : Prop :=
  ∀ (v : Variant) (id : List Byte) (s : State), StateInv s → s.faultCause = 0 → s.cfg.updatePolicy ≠ .wait →
    id.length = v.dataLen → (s.setupDone = true → s.activeVariant = s.cfg.codeOf v) →
    (s.lifecycle ≠ .transmitting → ∃ t, exec (.init v id) s = .next t ∧ t.lifecycle = .initialized ∧
      newEvents s t = [.callInitialize v, .callLoadBuffer t.pulseBuf]) ∧
    (s.lifecycle = .transmitting → exec (.init v id) s = .next { s with faultCause := 7 }) ∧
    (s.lifecycle = .uninitialized → exec .enable s = .next { s with faultCause := 5 }) ∧
    (s.lifecycle = .initialized ∨ s.lifecycle = .armed → ∃ t, exec .enable s = .next t ∧ t.lifecycle = .armed ∧
      newEvents s t = [.callEnableDma v]) ∧
    (s.lifecycle = .transmitting → ∃ t, exec .enable s = .next t ∧ t.lifecycle = .transmitting ∧ t.initialised = true ∧
      newEvents s t = [.callEnableDma v]) ∧
    (∃ t, exec .disable s = .next t ∧ newEvents s t = [.callDisable] ∧ t.initialised = false ∧
      t.lifecycle = (match s.lifecycle with
        | .uninitialized => .uninitialized
        | .initialized => .initialized
        | .armed => .initialized
        | .transmitting => .transmitting)) ∧
    (s.lifecycle ≠ .armed → exec (.transmitOnce v) s = .next s) ∧
    (s.lifecycle = .armed → s.ready → ∃ t, exec (.transmitOnce v) s = .next t ∧ t.lifecycle = .transmitting ∧
      newEvents s t = [.callTransmit v s.pulseBuf])

/-! ### Scheduler -/

/-- R162: in an open, ready block with the variant set up, a tick fires exactly when `(now - NEXT_FIRE_AT) mod 2^32 < 2^31`. -/
def Obligations.TickFiresExactlyWhenDue : Prop :=
  ∀ (v : Variant) (now : Time) (s t : State), s.initialised = true → s.repeating = true → s.ready →
    s.activeVariant = s.cfg.codeOf v → exec (.tick v now) s = .next t →
    (isDue now s.nextFireAt = true ↔ (now.toNat + 2 ^ 32 - s.nextFireAt.toNat) % 2 ^ 32 < 2 ^ 31) ∧
    (t.txBusy = true ↔ (now.toNat + 2 ^ 32 - s.nextFireAt.toNat) % 2 ^ 32 < 2 ^ 31) ∧
    isDue s.nextFireAt s.nextFireAt = true

/-- R164, R30, R166: a normal due tick reads the table at `JITTER_INDEX`, moves the index, counts the deadline from `now`, and
transmits. -/
def Obligations.DueTickSchedulesByTheJitterTable : Prop :=
  ∀ (v : Variant) (now : Time) (s : State), s.faultCause = 0 → s.initialised = true → s.repeating = true → s.ready →
    (now - s.nextFireAt).toNat < 2 ^ 31 → s.activeVariant = s.cfg.codeOf v → s.lowPower = false →
    s.jitterIndex.toNat < 15 →
    exec (.tick v now) s = .next
      { s with
        nextFireAt := now + BitVec.ofNat 32 (4500 + 1000 * [0, 9, 4, 8, 3, 9, 6, 7, 1, 6, 9, 7, 8, 2, 6].getD s.jitterIndex.toNat 0)
        jitterIndex := BitVec.ofNat 4 ((s.jitterIndex.toNat + 1) % 15)
        txBusy := true
        txVariant := some v
        txSnapshot := if s.cfg.updatePolicy = .doubleBuffer then some s.pulseBuf else s.txSnapshot
        trace := s.trace ++ [.callTransmit v s.pulseBuf] }

/-- R165: a due tick under low power takes the fixed interval, and moves the index only under `LOWPOWER_ADVANCES_JITTER`; it
still transmits. For a `TICKS_PER_SECOND` that is no multiple of 10 the dropped remainder is the model's choice (log entry 17). -/
def Obligations.LowPowerTickTakesTheFixedInterval : Prop :=
  ∀ (v : Variant) (now : Time) (s : State), s.faultCause = 0 → s.initialised = true → s.repeating = true → s.ready →
    (now - s.nextFireAt).toNat < 2 ^ 31 → s.activeVariant = s.cfg.codeOf v → s.lowPower = true →
    exec (.tick v now) s = .next
      { s with
        nextFireAt := now + BitVec.ofNat 32 (s.cfg.ticksPerSecond / 10)
        jitterIndex :=
          if s.cfg.lowPowerAdvancesJitter = true then BitVec.ofNat 4 ((s.jitterIndex.toNat + 1) % 15) else s.jitterIndex
        txBusy := true
        txVariant := some v
        txSnapshot := if s.cfg.updatePolicy = .doubleBuffer then some s.pulseBuf else s.txSnapshot
        trace := s.trace ++ [.callTransmit v s.pulseBuf] }

/-- R172: the variant of TICK is checked only on a due tick, and a mismatch records `VARIANT_MISMATCH` with no register
written. -/
def Obligations.TickChecksTheVariantOnlyWhenDue : Prop :=
  ∀ (v : Variant) (now : Time) (s : State), s.faultCause = 0 → s.activeVariant ≠ s.cfg.codeOf v →
    (s.initialised = true → s.repeating = true → s.ready → (now - s.nextFireAt).toNat < 2 ^ 31 →
      exec (.tick v now) s = .next { s with faultCause := 6 }) ∧
    (s.initialised = false ∨ s.repeating = false ∨ s.notReady ∨ 2 ^ 31 ≤ (now - s.nextFireAt).toNat →
      exec (.tick v now) s = .next s)

/-- R169, R173: the due check across the wrap of the counter: due up to `2^31 - 1` units after the deadline, and from there not
until the counter has gone on by `2^32` less the difference; from a deadline of 0, due exactly below 2^31. -/
def Obligations.DueCheckSurvivesTheWrap : Prop :=
  (∀ (next d : Time), isDue (next + d) next = true ↔ d.toNat < 2 ^ 31) ∧
  (∀ (next d : Time) (e : Nat), 2 ^ 31 ≤ d.toNat →
    (e < 2 ^ 32 - d.toNat → isDue (next + d + BitVec.ofNat 32 e) next = false) ∧
    (e = 2 ^ 32 - d.toNat → isDue (next + d + BitVec.ofNat 32 e) next = true)) ∧
  (∀ now : Time, isDue now 0 = true ↔ now.toNat < 2 ^ 31)

/-- R170: the intervals a firing tick can leave. -/
def Obligations.IntervalsAreThoseOfTheTable : Prop :=
  ∀ (v : Variant) (now : Time) (s t : State), s.cfg.ticksPerSecond = 1000000 → exec (.tick v now) s = .next t →
    t.trace ≠ s.trace →
    (s.lowPower = false → (t.nextFireAt - now).toNat ∈ [4500, 5500, 6500, 7500, 8500, 10500, 11500, 12500, 13500]) ∧
    (s.lowPower = true → (t.nextFireAt - now).toNat = 100000)

/-- R171: ticks exactly at each deadline, without low power, use the table's values in order; fifteen bring the index back and
move the deadline by 152 500. -/
def Obligations.FifteenFiresCloseTheJitterCycle : Prop :=
  ∀ (v : Variant) (s : State), s.faultCause = 0 → s.initialised = true → s.repeating = true → s.ready →
    s.activeVariant = s.cfg.codeOf v → s.lowPower = false → s.jitterIndex.toNat < 15 →
    (∀ n, ∃ t, fireAtDeadlines v n s = some t ∧ t.jitterIndex.toNat = (s.jitterIndex.toNat + n) % 15 ∧
      t.nextFireAt = s.nextFireAt + BitVec.ofNat 32
        ((List.range n).map (fun k => 4500 + 1000 *
          [0, 9, 4, 8, 3, 9, 6, 7, 1, 6, 9, 7, 8, 2, 6].getD ((s.jitterIndex.toNat + k) % 15) 0)).sum) ∧
    (∃ t, fireAtDeadlines v 15 s = some t ∧ t.jitterIndex = s.jitterIndex ∧ t.nextFireAt = s.nextFireAt + 152500)

/-- R168: no catch-up: a tick that finds the deadline a normal fire left is at least 4500 units later than that fire. -/
def Obligations.FiresAreAtLeastTheBaseIntervalApart : Prop :=
  ∀ (v v' : Variant) (now now' : Time) (s t u w : State), exec (.tick v now) s = .next t → t.trace ≠ s.trace →
    s.lowPower = false → u.nextFireAt = t.nextFireAt → exec (.tick v' now') u = .next w → w.trace ≠ u.trace →
    4500 ≤ (now' - now).toNat

/-- R138, R161, R35 (d): a transmission is requested only by TRANSMIT_ONCE or by a due tick, with its gates open, the transport
idle and ready, for the variant set up, of the buffer as it stands. -/
def Obligations.OnlyOpenGatesAndAnIdleTransportTransmit : Prop :=
  ∀ (i : Instr) (s t : State) (v : Variant) (buf : List Nat), exec i s = .next t →
    TraceEvent.callTransmit v buf ∈ newEvents s t →
    s.faultCause = 0 ∧ s.initialised = true ∧ s.ready ∧ s.activeVariant = s.cfg.codeOf v ∧ buf = s.pulseBuf ∧
      (i = .transmitOnce v ∨ ∃ now, i = .tick v now ∧ s.repeating = true ∧ (now - s.nextFireAt).toNat < 2 ^ 31)

/-- R33, R161, R163, R165: `lowPower` is drawn only by a tick that fires, and `isReady()` is polled only past the gates and is
false while a transmission is in flight: elsewhere no command's outcome depends on the line (a field of the model's, log entry 3). -/
def Obligations.DrawsShowOnlyWhereTheyArePolled : Prop :=
  ∀ (i : Instr) (s : State) (b : Bool),
    ((∀ v now, i = .tick v now → tickFires v now s = false) →
      onNext (fun t => { t with lowPower := s.lowPower }) (exec i { s with lowPower := b }) = exec i s) ∧
    ((s.initialised = false ∨ s.txBusy = true ∨ (i.opcode = .tick ∧ s.repeating = false) ∨
        (i.opcode ≠ .tick ∧ i.opcode ≠ .transmitOnce)) →
      onNext (fun t => { t with hwReady := s.hwReady }) (exec i { s with hwReady := b }) = exec i s)

/-- R59, R190, R240: the buffer a transmission replays is `PULSE_BUF` as it stood at its `Transmit` event, and no step changes it
while the transmission is in flight, under every `UPDATE_POLICY`. -/
def Obligations.BufferInFlightNeverChanges : Prop :=
  ∀ s t : State, StateInv s → step s = .next t → t.txBusy = true →
    (s.txBusy = true → t.replayed = s.replayed ∧ t.txVariant = s.txVariant) ∧
    (s.txBusy = false → t.replayed = s.pulseBuf ∧ ∃ v, t.txVariant = some v ∧ t.trace = s.trace ++ [.callTransmit v s.pulseBuf])

/-! ### Encoder -/

/-- R101, R102: an identifier of the variant's length gives exactly `LEN(v)` entries, 720 or 288; any other faults. -/
def Obligations.EncodedBufferHasTheFormulasLength : Prop :=
  ∀ (c : Config) (v : Variant) (id : List Byte),
    (id.length = v.dataLen → ∃ buf, encodeId c id v = .ok buf ∧ buf.length = v.bitsPerByte * v.dataLen * (v.toggleSlots + v.gapSlots) ∧
      buf.length = (match v with | .std => 720 | .alt => 288)) ∧
    (id.length ≠ v.dataLen → encodeId c id v = .error .idLengthMismatch)

/-- R108, with the frame bits of R104 and R105: the closed form of the buffer, entry by entry, under either bit order. -/
def Obligations.EveryEntryFollowsTheClosedForm : Prop :=
  (∀ (c : Config) (id : List Byte) (i k s : Nat), id.length = 6 → i < 6 → k < 10 → s < 12 →
    (encodeBytes c .std id)[120 * i + 12 * k + s]? = some
      (if s < 11 ∧
          (if k = 0 then c.startBit
            else if k ≤ 8 then
              (match c.bitOrder with
                | .msbFirst => (id.getD i 0).getLsbD (8 - k)
                | .lsbFirst => (id.getD i 0).getLsbD (k - 1))
            else c.stopBit) = true
        then c.markStd else 0)) ∧
  (∀ (c : Config) (id : List Byte) (i k s : Nat), id.length = 9 → i < 9 → k < 8 → s < 4 →
    (encodeBytes c .alt id)[32 * i + 4 * k + s]? = some
      (if (match c.bitOrder with
            | .msbFirst => (id.getD i 0).getLsbD (7 - k)
            | .lsbFirst => (id.getD i 0).getLsbD k) = true
        then c.markAlt else 0))

/-- R109: the number of marks is `T(v)` for each 1 bit of the frame, every other entry is a space; with `START_BIT = 1` and
`STOP_BIT = 0`, the counts by the identifier's 1 bits, and the bounds. -/
def Obligations.MarksAreCountedByTheOneBits : Prop :=
  ∀ (c : Config) (id : List Byte), c.wf →
    (∀ v : Variant, id.length = v.dataLen →
      (encodeBytes c v id).count (c.mark v) =
        v.toggleSlots * (id.map (fun x => (List.range v.bitsPerByte).countP (fun k => frameBit c v x k))).sum ∧
      (encodeBytes c v id).count 0 = v.bufferLen - (encodeBytes c v id).count (c.mark v)) ∧
    (c.startBit = true → c.stopBit = false → id.length = 6 →
      (encodeBytes c .std id).count c.markStd = 11 * (6 + popcount id) ∧
      66 ≤ 11 * (6 + popcount id) ∧ 11 * (6 + popcount id) ≤ 594) ∧
    (id.length = 9 → (encodeBytes c .alt id).count c.markAlt = 4 * popcount id ∧ 4 * popcount id ≤ 288)

/-- R110: every frame bit can be read back from the first slot of its cell, and the encoder is injective on identifiers of the
variant's length. -/
def Obligations.IdentifierCanBeReadBack : Prop :=
  ∀ (c : Config) (v : Variant), c.wf →
    (∀ (id : List Byte) (i k : Nat), id.length = v.dataLen → i < v.dataLen → k < v.bitsPerByte →
      (frameBit c v (id.getD i 0) k = true ↔
        (encodeBytes c v id)[i * v.entriesPerByte + k * v.slotsPerBit]? = some (c.mark v))) ∧
    (∀ id id' : List Byte, id.length = v.dataLen → id'.length = v.dataLen →
      encodeBytes c v id = encodeBytes c v id' → id = id')

/-- R111: the encoding depends on the identifier, the variant and the encoding parameters only. -/
def Obligations.EncodingDependsOnItsParametersOnly : Prop :=
  ∀ (c c' : Config) (id : List Byte) (v : Variant), c.mark v = c'.mark v → c.bitOrder = c'.bitOrder →
    c.startBit = c'.startBit → c.stopBit = c'.stopBit → encodeId c id v = encodeId c' id v

/-- R112: identifiers of all zeros and of all ones, the STD gap entries, and the lengths beside the right one. -/
def Obligations.EncoderCornerCases : Prop :=
  (∀ c : Config, encodeBytes c .alt (List.replicate 9 0x00) = List.replicate 288 0) ∧
  (∀ c : Config, encodeBytes c .alt (List.replicate 9 0xFF) = List.replicate 288 c.markAlt) ∧
  (∀ c : Config, c.startBit = true → c.stopBit = false →
    encodeBytes c .std (List.replicate 6 0x00) =
      (List.replicate 6 (List.replicate 11 c.markStd ++ List.replicate 109 0)).flatten) ∧
  (∀ (c : Config) (id : List Byte) (m : Nat), id.length = 6 → m < 60 → (encodeBytes c .std id)[12 * m + 11]? = some 0) ∧
  (∀ (c : Config) (v : Variant) (id : List Byte), (id.length = v.dataLen + 1 ∨ id.length + 1 = v.dataLen) →
    encodeId c id v = .error .idLengthMismatch) ∧
  (∀ (c : Config) (id : List Byte), id.length = 6 → encodeId c id .alt = .error .idLengthMismatch)

/-- R113: the worked example, entry by entry, for every mark value. -/
def Obligations.WorkedExampleOfTheAltIdentifier : Prop :=
  ∀ c : Config, c.bitOrder = .msbFirst → c.wf →
    (encodeBytes c .alt [0x1F, 0xFC, 0x8F, 0x03, 0xF0, 0x01, 0xF8, 0x1F, 0x00]).length = 288 ∧
    (encodeBytes c .alt [0x1F, 0xFC, 0x8F, 0x03, 0xF0, 0x01, 0xF8, 0x1F, 0x00]).count c.markAlt = 132 ∧
    ∀ n, n < 288 →
      ((encodeBytes c .alt [0x1F, 0xFC, 0x8F, 0x03, 0xF0, 0x01, 0xF8, 0x1F, 0x00])[n]? = some c.markAlt ↔
        (12 ≤ n ∧ n ≤ 55) ∨ (64 ≤ n ∧ n ≤ 67) ∨ (80 ≤ n ∧ n ≤ 95) ∨ (120 ≤ n ∧ n ≤ 143) ∨ (188 ≤ n ∧ n ≤ 211) ∨
          (236 ≤ n ∧ n ≤ 255))
end

