-- ==== Sys2Proof/Laws/Decode.lean ====
section
/-!
SUPPORT. The opcode map read both ways, the bytes of a frame, and when the reserved bytes are clear.
-/

namespace Sys2Proof

theorem Opcode.ofByte_code (o : Opcode) : Opcode.ofByte o.code = some o := by cases o <;> decide

theorem Opcode.code_of_ofByte {b : Byte} {o : Opcode} (h : Opcode.ofByte b = some o) : b = o.code := by
  have := List.find?_some h
  exact (by simpa using this : o.code = b).symm

/-- "`op ∉ {0x01, …, 0x08}`" (R76). -/
theorem Opcode.ofByte_eq_none_iff (b : Byte) : Opcode.ofByte b = none ↔ (b.toNat = 0 ∨ 9 ≤ b.toNat) := by
  revert b
  decide

theorem Frame.reservedClear_iff (f : Frame) (used : List Nat) :
    f.reservedClear used = true ↔ ∀ i, i < 16 → i ∉ used → f.byte i = 0 := by
  simp only [Frame.reservedClear, List.all_eq_true, List.mem_range, Bool.or_eq_true, List.contains_iff_mem, beq_iff_eq]
  exact ⟨fun h i hi hu => (h i hi).resolve_left hu, fun h i hi => by
    by_cases hu : i ∈ used
    · exact .inl hu
    · exact .inr (h i hi hu)⟩

theorem decodeFields_ok {o : Opcode} {v : Variant} {used : List Nat} {f : Frame} {i : Instr}
    (h : decodeFields o v used f = .ok i) : f.reservedClear used = true ∧ i = o.command v f := by
  unfold decodeFields at h
  split at h
  · cases h
    exact ⟨‹_›, rfl⟩
  · cases h

/-- What an accepted frame is (R76). -/
theorem decode_ok {c : Config} {f : Frame} {i : Instr} (h : decode c f = .ok i) :
    ∃ o : Opcode, f.op = o.code ∧
      ((o.usesVar = true ∧ ∃ v, c.variantOf f.var = some v ∧ f.reservedClear (0 :: 1 :: o.operandBytes v) = true ∧
          i = o.command v f) ∨
        (o.usesVar = false ∧ f.reservedClear [0] = true ∧ i = o.command .std f)) := by
  unfold decode at h
  split at h
  · cases h
  · next o ho =>
    refine ⟨o, Opcode.code_of_ofByte ho, ?_⟩
    split at h
    · next hv =>
      split at h
      · cases h
      · next v hvar =>
        obtain ⟨h1, h2⟩ := decodeFields_ok h
        exact .inl ⟨hv, v, hvar, h1, h2⟩
    · next hv =>
      obtain ⟨h1, h2⟩ := decodeFields_ok h
      exact .inr ⟨by simpa using hv, h1, h2⟩

/-- A timestamp field in natural numbers: nothing is lost in 32 bits (R72). -/
theorem Frame.nowField_toNat (f : Frame) : f.nowField.toNat =
    f.now0.toNat + 256 * f.now1.toNat + 65536 * f.now2.toNat + 16777216 * f.now3.toNat := by
  have h0 := f.now0.isLt
  have h1 := f.now1.isLt
  have h2 := f.now2.isLt
  have h3 := f.now3.isLt
  simp only [Frame.nowField, BitVec.toNat_ofNat]
  omega

theorem byteOf_toNat (w k : Nat) : (byteOf w k).toNat = w / 2 ^ (8 * k) % 256 := by simp [byteOf]

@[simp] theorem byteOf_zero (k : Nat) : byteOf 0 k = 0 := by simp [byteOf]

/-- The four bytes of a timestamp make it up again (R72). -/
theorem timestamp_of_bytes (now : Time) :
    (byteOf now.toNat 0).toNat + 256 * (byteOf now.toNat 1).toNat + 65536 * (byteOf now.toNat 2).toNat +
      16777216 * (byteOf now.toNat 3).toNat = now.toNat := by
  have := now.isLt
  simp only [byteOf_toNat]
  omega

end Sys2Proof
end

