-- ==== Sys2Proof/Laws/State.lean ====
section
/-!
SUPPORT. One lemma per field and update of State, so that no later proof unfolds a record update.
-/

namespace Sys2Proof.Machine

@[simp] theorem State.emit_cfg (e : TraceEvent) (s : State) : (s.emit e).cfg = s.cfg := rfl
@[simp] theorem State.emit_initialised (e : TraceEvent) (s : State) : (s.emit e).initialised = s.initialised := rfl
@[simp] theorem State.emit_repeating (e : TraceEvent) (s : State) : (s.emit e).repeating = s.repeating := rfl
@[simp] theorem State.emit_setupDone (e : TraceEvent) (s : State) : (s.emit e).setupDone = s.setupDone := rfl
@[simp] theorem State.emit_activeVariant (e : TraceEvent) (s : State) : (s.emit e).activeVariant = s.activeVariant := rfl
@[simp] theorem State.emit_nextFireAt (e : TraceEvent) (s : State) : (s.emit e).nextFireAt = s.nextFireAt := rfl
@[simp] theorem State.emit_jitterIndex (e : TraceEvent) (s : State) : (s.emit e).jitterIndex = s.jitterIndex := rfl
@[simp] theorem State.emit_faultCause (e : TraceEvent) (s : State) : (s.emit e).faultCause = s.faultCause := rfl
@[simp] theorem State.emit_pulseBuf (e : TraceEvent) (s : State) : (s.emit e).pulseBuf = s.pulseBuf := rfl
@[simp] theorem State.emit_txBusy (e : TraceEvent) (s : State) : (s.emit e).txBusy = s.txBusy := rfl
@[simp] theorem State.emit_txVariant (e : TraceEvent) (s : State) : (s.emit e).txVariant = s.txVariant := rfl
@[simp] theorem State.emit_txSnapshot (e : TraceEvent) (s : State) : (s.emit e).txSnapshot = s.txSnapshot := rfl
@[simp] theorem State.emit_trace (e : TraceEvent) (s : State) : (s.emit e).trace = s.trace ++ [e] := rfl
@[simp] theorem State.emit_hwReady (e : TraceEvent) (s : State) : (s.emit e).hwReady = s.hwReady := rfl
@[simp] theorem State.emit_lowPower (e : TraceEvent) (s : State) : (s.emit e).lowPower = s.lowPower := rfl
@[simp] theorem State.emit_inputs (e : TraceEvent) (s : State) : (s.emit e).inputs = s.inputs := rfl

@[simp] theorem State.recordFault_cfg (c : Cause) (s : State) : (s.recordFault c).cfg = s.cfg := rfl
@[simp] theorem State.recordFault_initialised (c : Cause) (s : State) : (s.recordFault c).initialised = s.initialised := rfl
@[simp] theorem State.recordFault_repeating (c : Cause) (s : State) : (s.recordFault c).repeating = s.repeating := rfl
@[simp] theorem State.recordFault_setupDone (c : Cause) (s : State) : (s.recordFault c).setupDone = s.setupDone := rfl
@[simp] theorem State.recordFault_activeVariant (c : Cause) (s : State) : (s.recordFault c).activeVariant = s.activeVariant := rfl
@[simp] theorem State.recordFault_nextFireAt (c : Cause) (s : State) : (s.recordFault c).nextFireAt = s.nextFireAt := rfl
@[simp] theorem State.recordFault_jitterIndex (c : Cause) (s : State) : (s.recordFault c).jitterIndex = s.jitterIndex := rfl
@[simp] theorem State.recordFault_faultCause (c : Cause) (s : State) : (s.recordFault c).faultCause = c.code := rfl
@[simp] theorem State.recordFault_pulseBuf (c : Cause) (s : State) : (s.recordFault c).pulseBuf = s.pulseBuf := rfl
@[simp] theorem State.recordFault_txBusy (c : Cause) (s : State) : (s.recordFault c).txBusy = s.txBusy := rfl
@[simp] theorem State.recordFault_txVariant (c : Cause) (s : State) : (s.recordFault c).txVariant = s.txVariant := rfl
@[simp] theorem State.recordFault_txSnapshot (c : Cause) (s : State) : (s.recordFault c).txSnapshot = s.txSnapshot := rfl
@[simp] theorem State.recordFault_trace (c : Cause) (s : State) : (s.recordFault c).trace = s.trace := rfl
@[simp] theorem State.recordFault_hwReady (c : Cause) (s : State) : (s.recordFault c).hwReady = s.hwReady := rfl
@[simp] theorem State.recordFault_lowPower (c : Cause) (s : State) : (s.recordFault c).lowPower = s.lowPower := rfl
@[simp] theorem State.recordFault_inputs (c : Cause) (s : State) : (s.recordFault c).inputs = s.inputs := rfl

@[simp] theorem State.storeBuffer_cfg (b : List Nat) (s : State) : (s.storeBuffer b).cfg = s.cfg := rfl
@[simp] theorem State.storeBuffer_initialised (b : List Nat) (s : State) : (s.storeBuffer b).initialised = s.initialised := rfl
@[simp] theorem State.storeBuffer_repeating (b : List Nat) (s : State) : (s.storeBuffer b).repeating = s.repeating := rfl
@[simp] theorem State.storeBuffer_setupDone (b : List Nat) (s : State) : (s.storeBuffer b).setupDone = s.setupDone := rfl
@[simp] theorem State.storeBuffer_activeVariant (b : List Nat) (s : State) : (s.storeBuffer b).activeVariant = s.activeVariant := rfl
@[simp] theorem State.storeBuffer_nextFireAt (b : List Nat) (s : State) : (s.storeBuffer b).nextFireAt = s.nextFireAt := rfl
@[simp] theorem State.storeBuffer_jitterIndex (b : List Nat) (s : State) : (s.storeBuffer b).jitterIndex = s.jitterIndex := rfl
@[simp] theorem State.storeBuffer_faultCause (b : List Nat) (s : State) : (s.storeBuffer b).faultCause = s.faultCause := rfl
@[simp] theorem State.storeBuffer_pulseBuf (b : List Nat) (s : State) : (s.storeBuffer b).pulseBuf = b := rfl
@[simp] theorem State.storeBuffer_txBusy (b : List Nat) (s : State) : (s.storeBuffer b).txBusy = s.txBusy := rfl
@[simp] theorem State.storeBuffer_txVariant (b : List Nat) (s : State) : (s.storeBuffer b).txVariant = s.txVariant := rfl
@[simp] theorem State.storeBuffer_txSnapshot (b : List Nat) (s : State) : (s.storeBuffer b).txSnapshot = s.txSnapshot := rfl
@[simp] theorem State.storeBuffer_trace (b : List Nat) (s : State) : (s.storeBuffer b).trace = s.trace := rfl
@[simp] theorem State.storeBuffer_hwReady (b : List Nat) (s : State) : (s.storeBuffer b).hwReady = s.hwReady := rfl
@[simp] theorem State.storeBuffer_lowPower (b : List Nat) (s : State) : (s.storeBuffer b).lowPower = s.lowPower := rfl
@[simp] theorem State.storeBuffer_inputs (b : List Nat) (s : State) : (s.storeBuffer b).inputs = s.inputs := rfl

@[simp] theorem State.setUpFor_cfg (v : Variant) (s : State) : (s.setUpFor v).cfg = s.cfg := rfl
@[simp] theorem State.setUpFor_initialised (v : Variant) (s : State) : (s.setUpFor v).initialised = s.initialised := rfl
@[simp] theorem State.setUpFor_repeating (v : Variant) (s : State) : (s.setUpFor v).repeating = s.repeating := rfl
@[simp] theorem State.setUpFor_setupDone (v : Variant) (s : State) : (s.setUpFor v).setupDone = true := rfl
@[simp] theorem State.setUpFor_activeVariant (v : Variant) (s : State) : (s.setUpFor v).activeVariant = s.cfg.codeOf v := rfl
@[simp] theorem State.setUpFor_nextFireAt (v : Variant) (s : State) : (s.setUpFor v).nextFireAt = s.nextFireAt := rfl
@[simp] theorem State.setUpFor_jitterIndex (v : Variant) (s : State) : (s.setUpFor v).jitterIndex = s.jitterIndex := rfl
@[simp] theorem State.setUpFor_faultCause (v : Variant) (s : State) : (s.setUpFor v).faultCause = s.faultCause := rfl
@[simp] theorem State.setUpFor_pulseBuf (v : Variant) (s : State) : (s.setUpFor v).pulseBuf = s.pulseBuf := rfl
@[simp] theorem State.setUpFor_txBusy (v : Variant) (s : State) : (s.setUpFor v).txBusy = s.txBusy := rfl
@[simp] theorem State.setUpFor_txVariant (v : Variant) (s : State) : (s.setUpFor v).txVariant = s.txVariant := rfl
@[simp] theorem State.setUpFor_txSnapshot (v : Variant) (s : State) : (s.setUpFor v).txSnapshot = s.txSnapshot := rfl
@[simp] theorem State.setUpFor_trace (v : Variant) (s : State) : (s.setUpFor v).trace = s.trace := rfl
@[simp] theorem State.setUpFor_hwReady (v : Variant) (s : State) : (s.setUpFor v).hwReady = s.hwReady := rfl
@[simp] theorem State.setUpFor_lowPower (v : Variant) (s : State) : (s.setUpFor v).lowPower = s.lowPower := rfl
@[simp] theorem State.setUpFor_inputs (v : Variant) (s : State) : (s.setUpFor v).inputs = s.inputs := rfl

@[simp] theorem State.startTx_cfg (v : Variant) (s : State) : (s.startTx v).cfg = s.cfg := rfl
@[simp] theorem State.startTx_initialised (v : Variant) (s : State) : (s.startTx v).initialised = s.initialised := rfl
@[simp] theorem State.startTx_repeating (v : Variant) (s : State) : (s.startTx v).repeating = s.repeating := rfl
@[simp] theorem State.startTx_setupDone (v : Variant) (s : State) : (s.startTx v).setupDone = s.setupDone := rfl
@[simp] theorem State.startTx_activeVariant (v : Variant) (s : State) : (s.startTx v).activeVariant = s.activeVariant := rfl
@[simp] theorem State.startTx_nextFireAt (v : Variant) (s : State) : (s.startTx v).nextFireAt = s.nextFireAt := rfl
@[simp] theorem State.startTx_jitterIndex (v : Variant) (s : State) : (s.startTx v).jitterIndex = s.jitterIndex := rfl
@[simp] theorem State.startTx_faultCause (v : Variant) (s : State) : (s.startTx v).faultCause = s.faultCause := rfl
@[simp] theorem State.startTx_pulseBuf (v : Variant) (s : State) : (s.startTx v).pulseBuf = s.pulseBuf := rfl
@[simp] theorem State.startTx_txBusy (v : Variant) (s : State) : (s.startTx v).txBusy = true := rfl
@[simp] theorem State.startTx_txVariant (v : Variant) (s : State) : (s.startTx v).txVariant = some v := rfl
@[simp] theorem State.startTx_txSnapshot (v : Variant) (s : State) : (s.startTx v).txSnapshot = if s.cfg.updatePolicy = .doubleBuffer then some s.pulseBuf else s.txSnapshot := rfl
@[simp] theorem State.startTx_trace (v : Variant) (s : State) : (s.startTx v).trace = s.trace := rfl
@[simp] theorem State.startTx_hwReady (v : Variant) (s : State) : (s.startTx v).hwReady = s.hwReady := rfl
@[simp] theorem State.startTx_lowPower (v : Variant) (s : State) : (s.startTx v).lowPower = s.lowPower := rfl
@[simp] theorem State.startTx_inputs (v : Variant) (s : State) : (s.startTx v).inputs = s.inputs := rfl

@[simp] theorem State.endTx_cfg (s : State) : (s.endTx).cfg = s.cfg := rfl
@[simp] theorem State.endTx_initialised (s : State) : (s.endTx).initialised = s.initialised := rfl
@[simp] theorem State.endTx_repeating (s : State) : (s.endTx).repeating = s.repeating := rfl
@[simp] theorem State.endTx_setupDone (s : State) : (s.endTx).setupDone = s.setupDone := rfl
@[simp] theorem State.endTx_activeVariant (s : State) : (s.endTx).activeVariant = s.activeVariant := rfl
@[simp] theorem State.endTx_nextFireAt (s : State) : (s.endTx).nextFireAt = s.nextFireAt := rfl
@[simp] theorem State.endTx_jitterIndex (s : State) : (s.endTx).jitterIndex = s.jitterIndex := rfl
@[simp] theorem State.endTx_faultCause (s : State) : (s.endTx).faultCause = s.faultCause := rfl
@[simp] theorem State.endTx_pulseBuf (s : State) : (s.endTx).pulseBuf = s.pulseBuf := rfl
@[simp] theorem State.endTx_txBusy (s : State) : (s.endTx).txBusy = false := rfl
@[simp] theorem State.endTx_txVariant (s : State) : (s.endTx).txVariant = none := rfl
@[simp] theorem State.endTx_txSnapshot (s : State) : (s.endTx).txSnapshot = none := rfl
@[simp] theorem State.endTx_trace (s : State) : (s.endTx).trace = s.trace := rfl
@[simp] theorem State.endTx_hwReady (s : State) : (s.endTx).hwReady = s.hwReady := rfl
@[simp] theorem State.endTx_lowPower (s : State) : (s.endTx).lowPower = s.lowPower := rfl
@[simp] theorem State.endTx_inputs (s : State) : (s.endTx).inputs = s.inputs := rfl

@[simp] theorem State.setInitialised_cfg (b : Bool) (s : State) : (s.setInitialised b).cfg = s.cfg := rfl
@[simp] theorem State.setInitialised_initialised (b : Bool) (s : State) : (s.setInitialised b).initialised = b := rfl
@[simp] theorem State.setInitialised_repeating (b : Bool) (s : State) : (s.setInitialised b).repeating = s.repeating := rfl
@[simp] theorem State.setInitialised_setupDone (b : Bool) (s : State) : (s.setInitialised b).setupDone = s.setupDone := rfl
@[simp] theorem State.setInitialised_activeVariant (b : Bool) (s : State) : (s.setInitialised b).activeVariant = s.activeVariant := rfl
@[simp] theorem State.setInitialised_nextFireAt (b : Bool) (s : State) : (s.setInitialised b).nextFireAt = s.nextFireAt := rfl
@[simp] theorem State.setInitialised_jitterIndex (b : Bool) (s : State) : (s.setInitialised b).jitterIndex = s.jitterIndex := rfl
@[simp] theorem State.setInitialised_faultCause (b : Bool) (s : State) : (s.setInitialised b).faultCause = s.faultCause := rfl
@[simp] theorem State.setInitialised_pulseBuf (b : Bool) (s : State) : (s.setInitialised b).pulseBuf = s.pulseBuf := rfl
@[simp] theorem State.setInitialised_txBusy (b : Bool) (s : State) : (s.setInitialised b).txBusy = s.txBusy := rfl
@[simp] theorem State.setInitialised_txVariant (b : Bool) (s : State) : (s.setInitialised b).txVariant = s.txVariant := rfl
@[simp] theorem State.setInitialised_txSnapshot (b : Bool) (s : State) : (s.setInitialised b).txSnapshot = s.txSnapshot := rfl
@[simp] theorem State.setInitialised_trace (b : Bool) (s : State) : (s.setInitialised b).trace = s.trace := rfl
@[simp] theorem State.setInitialised_hwReady (b : Bool) (s : State) : (s.setInitialised b).hwReady = s.hwReady := rfl
@[simp] theorem State.setInitialised_lowPower (b : Bool) (s : State) : (s.setInitialised b).lowPower = s.lowPower := rfl
@[simp] theorem State.setInitialised_inputs (b : Bool) (s : State) : (s.setInitialised b).inputs = s.inputs := rfl

@[simp] theorem State.setRepeating_cfg (b : Bool) (s : State) : (s.setRepeating b).cfg = s.cfg := rfl
@[simp] theorem State.setRepeating_initialised (b : Bool) (s : State) : (s.setRepeating b).initialised = s.initialised := rfl
@[simp] theorem State.setRepeating_repeating (b : Bool) (s : State) : (s.setRepeating b).repeating = b := rfl
@[simp] theorem State.setRepeating_setupDone (b : Bool) (s : State) : (s.setRepeating b).setupDone = s.setupDone := rfl
@[simp] theorem State.setRepeating_activeVariant (b : Bool) (s : State) : (s.setRepeating b).activeVariant = s.activeVariant := rfl
@[simp] theorem State.setRepeating_nextFireAt (b : Bool) (s : State) : (s.setRepeating b).nextFireAt = s.nextFireAt := rfl
@[simp] theorem State.setRepeating_jitterIndex (b : Bool) (s : State) : (s.setRepeating b).jitterIndex = s.jitterIndex := rfl
@[simp] theorem State.setRepeating_faultCause (b : Bool) (s : State) : (s.setRepeating b).faultCause = s.faultCause := rfl
@[simp] theorem State.setRepeating_pulseBuf (b : Bool) (s : State) : (s.setRepeating b).pulseBuf = s.pulseBuf := rfl
@[simp] theorem State.setRepeating_txBusy (b : Bool) (s : State) : (s.setRepeating b).txBusy = s.txBusy := rfl
@[simp] theorem State.setRepeating_txVariant (b : Bool) (s : State) : (s.setRepeating b).txVariant = s.txVariant := rfl
@[simp] theorem State.setRepeating_txSnapshot (b : Bool) (s : State) : (s.setRepeating b).txSnapshot = s.txSnapshot := rfl
@[simp] theorem State.setRepeating_trace (b : Bool) (s : State) : (s.setRepeating b).trace = s.trace := rfl
@[simp] theorem State.setRepeating_hwReady (b : Bool) (s : State) : (s.setRepeating b).hwReady = s.hwReady := rfl
@[simp] theorem State.setRepeating_lowPower (b : Bool) (s : State) : (s.setRepeating b).lowPower = s.lowPower := rfl
@[simp] theorem State.setRepeating_inputs (b : Bool) (s : State) : (s.setRepeating b).inputs = s.inputs := rfl

@[simp] theorem State.setDeadline_cfg (now : Time) (n : Nat) (s : State) : (s.setDeadline now n).cfg = s.cfg := rfl
@[simp] theorem State.setDeadline_initialised (now : Time) (n : Nat) (s : State) : (s.setDeadline now n).initialised = s.initialised := rfl
@[simp] theorem State.setDeadline_repeating (now : Time) (n : Nat) (s : State) : (s.setDeadline now n).repeating = s.repeating := rfl
@[simp] theorem State.setDeadline_setupDone (now : Time) (n : Nat) (s : State) : (s.setDeadline now n).setupDone = s.setupDone := rfl
@[simp] theorem State.setDeadline_activeVariant (now : Time) (n : Nat) (s : State) : (s.setDeadline now n).activeVariant = s.activeVariant := rfl
@[simp] theorem State.setDeadline_nextFireAt (now : Time) (n : Nat) (s : State) : (s.setDeadline now n).nextFireAt = now + BitVec.ofNat 32 n := rfl
@[simp] theorem State.setDeadline_jitterIndex (now : Time) (n : Nat) (s : State) : (s.setDeadline now n).jitterIndex = s.jitterIndex := rfl
@[simp] theorem State.setDeadline_faultCause (now : Time) (n : Nat) (s : State) : (s.setDeadline now n).faultCause = s.faultCause := rfl
@[simp] theorem State.setDeadline_pulseBuf (now : Time) (n : Nat) (s : State) : (s.setDeadline now n).pulseBuf = s.pulseBuf := rfl
@[simp] theorem State.setDeadline_txBusy (now : Time) (n : Nat) (s : State) : (s.setDeadline now n).txBusy = s.txBusy := rfl
@[simp] theorem State.setDeadline_txVariant (now : Time) (n : Nat) (s : State) : (s.setDeadline now n).txVariant = s.txVariant := rfl
@[simp] theorem State.setDeadline_txSnapshot (now : Time) (n : Nat) (s : State) : (s.setDeadline now n).txSnapshot = s.txSnapshot := rfl
@[simp] theorem State.setDeadline_trace (now : Time) (n : Nat) (s : State) : (s.setDeadline now n).trace = s.trace := rfl
@[simp] theorem State.setDeadline_hwReady (now : Time) (n : Nat) (s : State) : (s.setDeadline now n).hwReady = s.hwReady := rfl
@[simp] theorem State.setDeadline_lowPower (now : Time) (n : Nat) (s : State) : (s.setDeadline now n).lowPower = s.lowPower := rfl
@[simp] theorem State.setDeadline_inputs (now : Time) (n : Nat) (s : State) : (s.setDeadline now n).inputs = s.inputs := rfl

@[simp] theorem State.advanceJitter_cfg (s : State) : (s.advanceJitter).cfg = s.cfg := rfl
@[simp] theorem State.advanceJitter_initialised (s : State) : (s.advanceJitter).initialised = s.initialised := rfl
@[simp] theorem State.advanceJitter_repeating (s : State) : (s.advanceJitter).repeating = s.repeating := rfl
@[simp] theorem State.advanceJitter_setupDone (s : State) : (s.advanceJitter).setupDone = s.setupDone := rfl
@[simp] theorem State.advanceJitter_activeVariant (s : State) : (s.advanceJitter).activeVariant = s.activeVariant := rfl
@[simp] theorem State.advanceJitter_nextFireAt (s : State) : (s.advanceJitter).nextFireAt = s.nextFireAt := rfl
@[simp] theorem State.advanceJitter_jitterIndex (s : State) : (s.advanceJitter).jitterIndex = nextJitterIndex s.jitterIndex := rfl
@[simp] theorem State.advanceJitter_faultCause (s : State) : (s.advanceJitter).faultCause = s.faultCause := rfl
@[simp] theorem State.advanceJitter_pulseBuf (s : State) : (s.advanceJitter).pulseBuf = s.pulseBuf := rfl
@[simp] theorem State.advanceJitter_txBusy (s : State) : (s.advanceJitter).txBusy = s.txBusy := rfl
@[simp] theorem State.advanceJitter_txVariant (s : State) : (s.advanceJitter).txVariant = s.txVariant := rfl
@[simp] theorem State.advanceJitter_txSnapshot (s : State) : (s.advanceJitter).txSnapshot = s.txSnapshot := rfl
@[simp] theorem State.advanceJitter_trace (s : State) : (s.advanceJitter).trace = s.trace := rfl
@[simp] theorem State.advanceJitter_hwReady (s : State) : (s.advanceJitter).hwReady = s.hwReady := rfl
@[simp] theorem State.advanceJitter_lowPower (s : State) : (s.advanceJitter).lowPower = s.lowPower := rfl
@[simp] theorem State.advanceJitter_inputs (s : State) : (s.advanceJitter).inputs = s.inputs := rfl

@[simp] theorem State.present_cfg (d : Draws) (r : List Input) (s : State) : (s.present d r).cfg = s.cfg := rfl
@[simp] theorem State.present_initialised (d : Draws) (r : List Input) (s : State) : (s.present d r).initialised = s.initialised := rfl
@[simp] theorem State.present_repeating (d : Draws) (r : List Input) (s : State) : (s.present d r).repeating = s.repeating := rfl
@[simp] theorem State.present_setupDone (d : Draws) (r : List Input) (s : State) : (s.present d r).setupDone = s.setupDone := rfl
@[simp] theorem State.present_activeVariant (d : Draws) (r : List Input) (s : State) : (s.present d r).activeVariant = s.activeVariant := rfl
@[simp] theorem State.present_nextFireAt (d : Draws) (r : List Input) (s : State) : (s.present d r).nextFireAt = s.nextFireAt := rfl
@[simp] theorem State.present_jitterIndex (d : Draws) (r : List Input) (s : State) : (s.present d r).jitterIndex = s.jitterIndex := rfl
@[simp] theorem State.present_faultCause (d : Draws) (r : List Input) (s : State) : (s.present d r).faultCause = s.faultCause := rfl
@[simp] theorem State.present_pulseBuf (d : Draws) (r : List Input) (s : State) : (s.present d r).pulseBuf = s.pulseBuf := rfl
@[simp] theorem State.present_txBusy (d : Draws) (r : List Input) (s : State) : (s.present d r).txBusy = s.txBusy := rfl
@[simp] theorem State.present_txVariant (d : Draws) (r : List Input) (s : State) : (s.present d r).txVariant = s.txVariant := rfl
@[simp] theorem State.present_txSnapshot (d : Draws) (r : List Input) (s : State) : (s.present d r).txSnapshot = s.txSnapshot := rfl
@[simp] theorem State.present_trace (d : Draws) (r : List Input) (s : State) : (s.present d r).trace = s.trace := rfl
@[simp] theorem State.present_hwReady (d : Draws) (r : List Input) (s : State) : (s.present d r).hwReady = d.hwReady := rfl
@[simp] theorem State.present_lowPower (d : Draws) (r : List Input) (s : State) : (s.present d r).lowPower = d.lowPower := rfl
@[simp] theorem State.present_inputs (d : Draws) (r : List Input) (s : State) : (s.present d r).inputs = r := rfl

@[simp] theorem State.dropInput_cfg (r : List Input) (s : State) : (s.dropInput r).cfg = s.cfg := rfl
@[simp] theorem State.dropInput_initialised (r : List Input) (s : State) : (s.dropInput r).initialised = s.initialised := rfl
@[simp] theorem State.dropInput_repeating (r : List Input) (s : State) : (s.dropInput r).repeating = s.repeating := rfl
@[simp] theorem State.dropInput_setupDone (r : List Input) (s : State) : (s.dropInput r).setupDone = s.setupDone := rfl
@[simp] theorem State.dropInput_activeVariant (r : List Input) (s : State) : (s.dropInput r).activeVariant = s.activeVariant := rfl
@[simp] theorem State.dropInput_nextFireAt (r : List Input) (s : State) : (s.dropInput r).nextFireAt = s.nextFireAt := rfl
@[simp] theorem State.dropInput_jitterIndex (r : List Input) (s : State) : (s.dropInput r).jitterIndex = s.jitterIndex := rfl
@[simp] theorem State.dropInput_faultCause (r : List Input) (s : State) : (s.dropInput r).faultCause = s.faultCause := rfl
@[simp] theorem State.dropInput_pulseBuf (r : List Input) (s : State) : (s.dropInput r).pulseBuf = s.pulseBuf := rfl
@[simp] theorem State.dropInput_txBusy (r : List Input) (s : State) : (s.dropInput r).txBusy = s.txBusy := rfl
@[simp] theorem State.dropInput_txVariant (r : List Input) (s : State) : (s.dropInput r).txVariant = s.txVariant := rfl
@[simp] theorem State.dropInput_txSnapshot (r : List Input) (s : State) : (s.dropInput r).txSnapshot = s.txSnapshot := rfl
@[simp] theorem State.dropInput_trace (r : List Input) (s : State) : (s.dropInput r).trace = s.trace := rfl
@[simp] theorem State.dropInput_hwReady (r : List Input) (s : State) : (s.dropInput r).hwReady = s.hwReady := rfl
@[simp] theorem State.dropInput_lowPower (r : List Input) (s : State) : (s.dropInput r).lowPower = s.lowPower := rfl
@[simp] theorem State.dropInput_inputs (r : List Input) (s : State) : (s.dropInput r).inputs = r := rfl

end Sys2Proof.Machine
end

