-- ==== Sys2Proof/Laws/Ops.lean ====
section
/-!
SUPPORT. What each shared operation can do, said once: the checks before a command, raising a fault, the transmit path, the
transport's step, the draws, the due check, the jitter table.
-/

namespace Sys2Proof.Machine

variable {s t : State} {body : Host.Outcome State Fault Refusal}

theorem isHalted_eq_false_iff : s.isHalted = false ↔ s.faultCause = 0 := by simp [State.isHalted]

theorem isHalted_eq_true_iff : s.isHalted = true ↔ s.faultCause ≠ 0 := by simp [State.isHalted]

/-- A command that answers a next state ran on a block that had not faulted (R130). -/
theorem whenRunning_next (h : whenRunning s body = .next t) : s.faultCause = 0 ∧ body = .next t := by
  unfold whenRunning at h
  split at h
  · cases h
  · next hh => exact ⟨by simpa [State.isHalted] using hh, h⟩

theorem whenRunning_of_running (h : s.faultCause = 0) : whenRunning s body = body := by
  simp [whenRunning, State.isHalted, h]

theorem whenRunning_of_halted (h : s.faultCause ≠ 0) : whenRunning s body = .fault .halted := by
  rw [whenRunning, if_pos (isHalted_eq_true_iff.2 h)]

/-- A command that may hold and answers a next state was not held (R131, R136). -/
theorem whenNotHeld_next (h : whenNotHeld s body = .next t) : s.holdsBuffer = false ∧ body = .next t := by
  unfold whenNotHeld at h
  split at h
  · cases h
  · next hh => exact ⟨by simpa using hh, h⟩

theorem whenNotHeld_of_free (h : s.holdsBuffer = false) : whenNotHeld s body = body := by simp [whenNotHeld, h]

/-- Raising a fault answers a next state, in which only `FAULT_CAUSE` is new (R200). -/
theorem raiseFault_next {c : Cause} (h : raiseFault c s = .next t) : t = s.recordFault c := by
  cases h
  rfl

theorem Cause.code_injective {c d : Cause} (h : c.code = d.code) : c = d := by
  cases c <;> cases d <;> first | rfl | simp [Cause.code] at h

theorem Cause.code_ne_zero {c : Cause} (h : c ≠ .none) : c.code ≠ 0 := by cases c <;> simp_all [Cause.code]

theorem issueTransmit_eq_sent (v : Variant) (s : State) : issueTransmit v s = sent v s := rfl

/-- The transport's step while busy (R191). -/
theorem completeTx_eq (s : State) :
    completeTx s = { s with txBusy := false, txVariant := none, txSnapshot := none, trace := s.trace ++ [.complete] } := rfl

theorem transportStep_of_idle (h : s.txBusy = false) : transportStep s = s := by simp [transportStep, h]

theorem transportStep_of_busy (h : s.txBusy = true) : transportStep s = completeTx s := by simp [transportStep, h]

theorem waitForComplete_eq (s : State) : s.waitForComplete = { s with trace := s.trace ++ waitEvents s.cfg } := by
  unfold State.waitForComplete waitEvents
  split <;> simp [State.emit]

/-- `TX_BUSY = 1 → hwReady = false` (R33). -/
theorem pollReady_idle (h : s.pollReady = true) : s.txBusy = false := by
  unfold State.pollReady at h
  simp at h
  exact h.1

/-- The due check in unsigned arithmetic (R162). -/
theorem isDue_iff (now next : Time) : isDue now next = true ↔ (now - next).toNat < 2 ^ 31 := by
  simp only [isDue, decide_eq_true_eq, BitVec.toInt_eq_toNat_cond]
  split <;> omega

/-- Every index below 15 has an entry (R30). -/
theorem jitterAt_of_lt {i : BitVec 4} (h : i.toNat < jitterLen) : ∃ j, jitterAt i = some j ∧ j ≤ 9 := by
  revert h
  revert i
  decide

/-- The index stays in the table (R27). -/
theorem nextJitterIndex_lt (i : BitVec 4) : (nextJitterIndex i).toNat < jitterLen := by
  revert i
  decide

theorem variantOf_codeOf {c : Config} (h : c.wf) (v : Variant) : c.variantOf (c.codeOf v) = some v := by
  cases v <;> simp [Config.variantOf, Config.codeOf, Ne.symm h.1]

theorem codeOf_injective {c : Config} (h : c.wf) {v w : Variant} (e : c.codeOf v = c.codeOf w) : v = w := by
  have := variantOf_codeOf h v
  rw [e, variantOf_codeOf h w] at this
  exact (Option.some.inj this).symm

theorem variantOf_eq_some {c : Config} {b : Byte} {v : Variant} (h : c.variantOf b = some v) : b = c.codeOf v := by
  unfold Config.variantOf at h
  split at h
  · cases h
    assumption
  · split at h
    · cases h
      assumption
    · cases h

/-- The default parameters are admissible, whatever the OPEN ones are (R7). -/
theorem default_wf : Config.default.wf := by
  have key : ∀ v, 0 < Config.openMark v ∧ Config.openMark v < 2 ^ Config.openPwBits := by
    intro v
    have hp : 2 ≤ 2 ^ Config.openPwBits := by
      have : 2 ^ 1 ≤ 2 ^ Config.openPwBits := Nat.pow_le_pow_right (by decide) (by simp [Config.openPwBits])
      simpa using this
    unfold Config.openMark
    generalize 2 ^ Config.openPwBits = n at hp ⊢
    obtain ⟨m, rfl⟩ : ∃ m, n = m + 1 := ⟨n - 1, by omega⟩
    have hm : Config.freeMark v % m < m := Nat.mod_lt _ (by omega)
    simp only [Nat.add_sub_cancel]
    omega
  exact ⟨by decide, key .std, key .alt⟩

/-- The lists of events split where they are joined. -/
theorem flightAfter_append (b : Bool) (xs ys : List TraceEvent) :
    flightAfter b (xs ++ ys) = (flightAfter b xs).bind (fun b' => flightAfter b' ys) := by
  induction xs generalizing b with
  | nil => simp [flightAfter]
  | cons e es ih => cases e <;> cases b <;> simp [flightAfter, ih]

theorem lastTransmitFrom_append (l : Option (Variant × List Nat)) (xs ys : List TraceEvent) :
    lastTransmitFrom l (xs ++ ys) = lastTransmitFrom (lastTransmitFrom l xs) ys := by
  induction xs generalizing l with
  | nil => rfl
  | cons e es ih => cases e <;> simp [lastTransmitFrom, ih]

end Sys2Proof.Machine
end

