-- ==== Sys2Proof/Laws/Effect.lean ====
section
/-!
SUPPORT. Everything a command can do, said once: `exec i s = next t` exactly in the cases of `Effect i s t`.
-/

namespace Sys2Proof.Machine

/-- The faults a command can raise once decoded (60_exceptions.md R201, column "raised by"). -/
def mayRaise : Instr → List Cause
  | .init _ _ => [.idLengthMismatch, .bufferHazard]
  | .enable => [.notSetUp]
  | .disable => []
  | .startRepeating => []
  | .stopRepeating => []
  | .updateData _ _ => [.idLengthMismatch, .notSetUp, .variantMismatch, .bufferHazard]
  | .transmitOnce _ => [.variantMismatch]
  | .tick _ _ => [.variantMismatch]

/-- The next states of a command. -/
inductive Effect : Instr → State → State → Prop where
  | faults {i : Instr} {s : State} (c : Cause) (raised : c ∈ mayRaise i) : Effect i s (s.recordFault c)
  | transmitIdle {v : Variant} {s : State} (off : s.initialised = false ∨ s.pollReady = false) : Effect (.transmitOnce v) s s
  | tickIdle {v : Variant} {now : Time} {s : State}
      (off : s.initialised = false ∨ s.repeating = false ∨ s.pollReady = false ∨ isDue now s.nextFireAt = false) :
      Effect (.tick v now) s s
  | init {v : Variant} {id : List Byte} {s : State} (fits : idFits v id = true) (idle : s.txBusy = false) :
      Effect (.init v id) s
        { s with
          initialised := false
          activeVariant := s.cfg.codeOf v
          setupDone := true
          pulseBuf := encodeBytes s.cfg v id
          trace := s.trace ++ waitEvents s.cfg ++ [.callInitialize v] ++ [.callLoadBuffer (encodeBytes s.cfg v id)] }
  | enable {v : Variant} {s : State} (setUp : s.setupDone = true) (active : s.setUpVariant = some v) :
      Effect .enable s { s with initialised := true, trace := s.trace ++ [.callEnableDma v] }
  | disable {s : State} : Effect .disable s { s with initialised := false, trace := s.trace ++ [.callDisable] }
  | startRepeating {s : State} : Effect .startRepeating s { s with repeating := true }
  | stopRepeating {s : State} : Effect .stopRepeating s { s with repeating := false }
  | updateData {v : Variant} {id : List Byte} {s : State} (fits : idFits v id = true) (setUp : s.setupDone = true)
      (active : s.namesActive v = true) (idle : s.txBusy = false ∨ s.cfg.updatePolicy = .doubleBuffer) :
      Effect (.updateData v id) s
        { s with
          pulseBuf := encodeBytes s.cfg v id
          trace := s.trace ++ waitEvents s.cfg ++ [.callLoadBuffer (encodeBytes s.cfg v id)] }
  | transmitOnce {v : Variant} {s : State} (enabled : s.initialised = true) (ready : s.pollReady = true)
      (active : s.namesActive v = true) : Effect (.transmitOnce v) s (sent v s)
  | tickLowRate {v : Variant} {now : Time} {s : State} (fires : tickFires v now s = true) (low : s.lowPower = true) :
      Effect (.tick v now) s (sent v (scheduleLowRate now s))
  | tickJitter {v : Variant} {now : Time} {s : State} {j : Nat} (fires : tickFires v now s = true)
      (normal : s.lowPower = false) (entry : jitterAt s.jitterIndex = some j) :
      Effect (.tick v now) s (sent v (scheduleJitter now j s))

variable {s t : State}

theorem execInit_effect {v : Variant} {id : List Byte} (h : execInit v id s = .next t) :
    s.faultCause = 0 ∧ Effect (.init v id) s t := by
  obtain ⟨h0, h⟩ := whenRunning_next h
  obtain ⟨hh, h⟩ := whenNotHeld_next h
  refine ⟨h0, ?_⟩
  unfold encodeId at h
  by_cases hf : idFits v id = true
  · simp only [hf, if_true] at h
    split at h
    · rw [raiseFault_next h]
      exact .faults _ (by simp [mayRaise])
    · next hb =>
      have hidle : s.txBusy = false := by
        cases hbusy : s.txBusy
        · rfl
        · simp [hbusy, State.holdsBuffer] at hb hh
          exact absurd hb hh
      cases h
      rw [waitForComplete_eq]
      exact .init hf hidle
  · simp only [hf] at h
    rw [raiseFault_next h]
    exact .faults _ (by simp [mayRaise])

theorem execEnable_effect (h : execEnable s = .next t) : s.faultCause = 0 ∧ Effect .enable s t := by
  obtain ⟨h0, h⟩ := whenRunning_next h
  refine ⟨h0, ?_⟩
  split at h
  · rw [raiseFault_next h]
    exact .faults _ (by simp [mayRaise])
  · next hs =>
    split at h
    · cases h
    · next v hv =>
      cases h
      exact .enable (by simpa using hs) hv

theorem execDisable_effect (h : execDisable s = .next t) : s.faultCause = 0 ∧ Effect .disable s t := by
  obtain ⟨h0, h⟩ := whenRunning_next h
  cases h
  exact ⟨h0, .disable⟩

theorem execStartRepeating_effect (h : execStartRepeating s = .next t) : s.faultCause = 0 ∧ Effect .startRepeating s t := by
  obtain ⟨h0, h⟩ := whenRunning_next h
  cases h
  exact ⟨h0, .startRepeating⟩

theorem execStopRepeating_effect (h : execStopRepeating s = .next t) : s.faultCause = 0 ∧ Effect .stopRepeating s t := by
  obtain ⟨h0, h⟩ := whenRunning_next h
  cases h
  exact ⟨h0, .stopRepeating⟩

theorem execUpdateData_effect {v : Variant} {id : List Byte} (h : execUpdateData v id s = .next t) :
    s.faultCause = 0 ∧ Effect (.updateData v id) s t := by
  obtain ⟨h0, h⟩ := whenRunning_next h
  obtain ⟨hh, h⟩ := whenNotHeld_next h
  refine ⟨h0, ?_⟩
  unfold encodeId at h
  by_cases hf : idFits v id = true
  · simp only [hf, if_true] at h
    split at h
    · rw [raiseFault_next h]
      exact .faults _ (by simp [mayRaise])
    · next hs =>
      split at h
      · rw [raiseFault_next h]
        exact .faults _ (by simp [mayRaise])
      · next ha =>
        split at h
        · rw [raiseFault_next h]
          exact .faults _ (by simp [mayRaise])
        · next hb =>
          have hidle : s.txBusy = false ∨ s.cfg.updatePolicy = .doubleBuffer := by
            cases hbusy : s.txBusy <;> cases hp : s.cfg.updatePolicy <;> simp_all [State.holdsBuffer]
          cases h
          rw [waitForComplete_eq]
          exact .updateData hf (by simpa using hs) (by simpa using ha) hidle
  · simp only [hf] at h
    rw [raiseFault_next h]
    exact .faults _ (by simp [mayRaise])

theorem execTransmitOnce_effect {v : Variant} (h : execTransmitOnce v s = .next t) :
    s.faultCause = 0 ∧ Effect (.transmitOnce v) s t := by
  obtain ⟨h0, h⟩ := whenRunning_next h
  refine ⟨h0, ?_⟩
  split at h
  · next hi =>
    cases h
    exact .transmitIdle (.inl (by simpa using hi))
  · next hi =>
    split at h
    · next hr =>
      cases h
      exact .transmitIdle (.inr (by simpa using hr))
    · next hr =>
      split at h
      · rw [raiseFault_next h]
        exact .faults _ (by simp [mayRaise])
      · next ha =>
        cases h
        exact .transmitOnce (by simpa using hi) (by simpa using hr) (by simpa using ha)

theorem execTick_effect {v : Variant} {now : Time} (h : execTick v now s = .next t) :
    s.faultCause = 0 ∧ Effect (.tick v now) s t := by
  obtain ⟨h0, h⟩ := whenRunning_next h
  refine ⟨h0, ?_⟩
  split at h
  · next hg =>
    cases h
    simp only [State.gatesOpen, Bool.not_eq_true', Bool.and_eq_false_iff] at hg
    exact .tickIdle (hg.elim .inl (fun h => .inr (.inl h)))
  · next hg =>
    split at h
    · next hr =>
      cases h
      exact .tickIdle (.inr (.inr (.inl (by simpa using hr))))
    · next hr =>
      split at h
      · next hd =>
        cases h
        exact .tickIdle (.inr (.inr (.inr (by simpa using hd))))
      · next hd =>
        split at h
        · rw [raiseFault_next h]
          exact .faults _ (by simp [mayRaise])
        · next ha =>
          have hf : tickFires v now s = true := by simp_all [tickFires, State.isHalted, State.gatesOpen]
          split at h
          · next hl =>
            cases h
            exact .tickLowRate hf hl
          · next hl =>
            split at h
            · cases h
            · next j hj =>
              cases h
              exact .tickJitter hf (by simpa [State.sampleLowPower] using hl) hj

/-- A command that answers a next state ran on a block that had not faulted, and did one of the things `Effect` lists. -/
theorem exec_effect {i : Instr} (h : exec i s = .next t) : s.faultCause = 0 ∧ Effect i s t := by
  cases i with
  | init v id => exact execInit_effect h
  | enable => exact execEnable_effect h
  | disable => exact execDisable_effect h
  | startRepeating => exact execStartRepeating_effect h
  | stopRepeating => exact execStopRepeating_effect h
  | updateData v id => exact execUpdateData_effect h
  | transmitOnce v => exact execTransmitOnce_effect h
  | tick v now => exact execTick_effect h

/-- A tick that fires found the transport ready (R161). -/
theorem tickFires_ready {v : Variant} {now : Time} (h : tickFires v now s = true) : s.pollReady = true := by
  simp only [tickFires, Bool.and_eq_true] at h
  exact h.1.1.2

/-- No command is refused. -/
theorem exec_ne_refused (i : Instr) (s : State) (r : Refusal) : exec i s ≠ .refused r := by
  intro h
  cases i <;> simp only [exec, execInit, execEnable, execDisable, execStartRepeating, execStopRepeating, execUpdateData,
    execTransmitOnce, execTick, whenRunning, whenNotHeld, raiseFault] at h
  all_goals
    repeat' split at h
    all_goals cases h

/-- Where a command stops: halted, held, or in one of the two states no run reaches. -/
theorem exec_fault {i : Instr} {r : Fault} (h : exec i s = .fault r) :
    (r = .halted ∧ s.faultCause ≠ 0) ∨
    (r = .held ∧ s.holdsBuffer = true ∧ ((∃ v id, i = .init v id) ∨ ∃ v id, i = .updateData v id)) ∨
    (r = .noActiveVariant ∧ i = .enable ∧ s.setupDone = true ∧ s.setUpVariant = none) ∨
    (r = .jitterIndexOutOfTable ∧ (∃ v now, i = .tick v now) ∧ jitterAt s.jitterIndex = none) := by
  by_cases h0 : s.faultCause = 0
  · cases i <;> simp only [exec, execInit, execEnable, execDisable, execStartRepeating, execStopRepeating, execUpdateData,
      execTransmitOnce, execTick, whenRunning_of_running h0, whenNotHeld, raiseFault] at h
    all_goals
      repeat' split at h
      all_goals first
        | cases h; done
        | (cases h; simp_all)
  · left
    refine ⟨?_, h0⟩
    cases i <;> simp only [exec, execInit, execEnable, execDisable, execStartRepeating, execStopRepeating, execUpdateData,
      execTransmitOnce, execTick, whenRunning_of_halted h0] at h <;> cases h <;> rfl

end Sys2Proof.Machine
end

