-- ==== Sys2Proof/Laws/Encoder.lean ====
section
/-!
SUPPORT. The encoder in blocks: a list made of blocks of one length is read block by block; the blocks of the encoder are the
bits and the bytes.
-/

namespace Sys2Proof.Machine

/-- Blocks of one length add up. -/
theorem length_flatMap_blocks {α : Type} {f : α → List Nat} {n : Nat} (h : ∀ x, (f x).length = n) (xs : List α) :
    (xs.flatMap f).length = xs.length * n := by
  induction xs with
  | nil => simp
  | cons x xs ih => simp [h x, ih, Nat.succ_mul, Nat.add_comm]

/-- Entry `i·n + s` of blocks of length `n` is entry `s` of block `i`. -/
theorem getElem?_flatMap_blocks {α : Type} {f : α → List Nat} {n : Nat} (h : ∀ x, (f x).length = n) (xs : List α) {i s : Nat}
    (hs : s < n) {x : α} (hx : xs[i]? = some x) : (xs.flatMap f)[i * n + s]? = (f x)[s]? := by
  induction xs generalizing i with
  | nil => simp at hx
  | cons y ys ih =>
    cases i with
    | zero =>
      simp only [List.getElem?_cons_zero, Option.some.injEq] at hx
      subst hx
      simp only [List.flatMap_cons, Nat.zero_mul, Nat.zero_add]
      rw [List.getElem?_append_left (by rw [h y]; exact hs)]
    | succ i =>
      simp only [List.getElem?_cons_succ] at hx
      simp only [List.flatMap_cons]
      rw [List.getElem?_append_right (by rw [h y, Nat.succ_mul]; omega), h y,
        show (i + 1) * n + s - n = i * n + s by rw [Nat.succ_mul]; omega]
      exact ih hx

theorem encodeBit_length (c : Config) (v : Variant) (b : Bool) : (encodeBit c v b).length = v.slotsPerBit := by
  simp [encodeBit, Variant.slotsPerBit]

theorem encodeByte_length (c : Config) (v : Variant) (x : Byte) : (encodeByte c v x).length = v.entriesPerByte := by
  rw [encodeByte, length_flatMap_blocks (fun k => encodeBit_length c v (frameBit c v x k)), List.length_range, Variant.entriesPerByte]

theorem encodeBytes_length (c : Config) (v : Variant) (id : List Byte) :
    (encodeBytes c v id).length = id.length * v.entriesPerByte := by
  rw [encodeBytes, length_flatMap_blocks (encodeByte_length c v)]

/-- Slot `s` of a bit: the slot value in the toggle slots, a space in the gap (R106). -/
theorem encodeBit_getElem? (c : Config) (v : Variant) (b : Bool) {s : Nat} (hs : s < v.slotsPerBit) :
    (encodeBit c v b)[s]? = some (if s < v.toggleSlots then slotValue c v b else space) := by
  unfold encodeBit
  unfold Variant.slotsPerBit at hs
  by_cases h : s < v.toggleSlots
  · rw [List.getElem?_append_left (by simpa using h)]
    simp [h]
  · rw [List.getElem?_append_right (by simpa using h)]
    rw [List.length_replicate, List.getElem?_replicate, if_pos (by omega), if_neg h]

/-- Entry `k·S(v) + s` of an encoded byte is slot `s` of its frame bit `k` (R103). -/
theorem encodeByte_getElem? (c : Config) (v : Variant) (x : Byte) {k s : Nat} (hk : k < v.bitsPerByte) (hs : s < v.slotsPerBit) :
    (encodeByte c v x)[k * v.slotsPerBit + s]? = (encodeBit c v (frameBit c v x k))[s]? := by
  rw [encodeByte, getElem?_flatMap_blocks (f := fun k => encodeBit c v (frameBit c v x k)) (fun k => encodeBit_length c v _) _ hs]
  rw [List.getElem?_range hk]

/-- Entry `i·E(v) + m` of the buffer is entry `m` of the encoded byte `i` (R51, R103). -/
theorem encodeBytes_getElem? (c : Config) (v : Variant) (id : List Byte) {i m : Nat} {x : Byte} (hx : id[i]? = some x)
    (hm : m < v.entriesPerByte) : (encodeBytes c v id)[i * v.entriesPerByte + m]? = (encodeByte c v x)[m]? :=
  getElem?_flatMap_blocks (encodeByte_length c v) id hm hx

/-- Every entry is the mark of the variant or a space (R106). -/
theorem encodeBytes_mem {c : Config} {v : Variant} {id : List Byte} {w : Nat} (h : w ∈ encodeBytes c v id) :
    w = c.mark v ∨ w = space := by
  simp only [encodeBytes, List.mem_flatMap, encodeByte, encodeBit, List.mem_append, List.mem_replicate, slotValue] at h
  obtain ⟨x, -, k, -, ⟨-, h⟩ | ⟨-, h⟩⟩ := h
  · split at h
    · exact .inl h
    · exact .inr h
  · exact .inr h

theorem encodeId_of_fits {c : Config} {v : Variant} {id : List Byte} (h : id.length = v.dataLen) :
    encodeId c id v = .ok (encodeBytes c v id) := by simp [encodeId, idFits, h]

theorem encodeId_of_misfit {c : Config} {v : Variant} {id : List Byte} (h : id.length ≠ v.dataLen) :
    encodeId c id v = .error .idLengthMismatch := by simp [encodeId, idFits, h]

end Sys2Proof.Machine
end

