-- ==== Sys2Proof/Laws/PerInstr.lean ====
section
/-!
SUPPORT. One lemma per command about its frame: the first byte is the command's opcode, the reserved byte is 0, and every byte
the command has no field for is 0 (30_encoding.md R71, R75).
-/

namespace Sys2Proof.Laws.EncodedFrame

/-- What holds of the frame of a command, under every configuration (R70, R71, R75). -/
def Statement (i : Instr) : Prop :=
  ∀ c : Config,
    Opcode.ofByte (encode c i).op = some i.opcode ∧
    (encode c i).rsv = 0 ∧
    (i.opcode.usesVar = false → (encode c i).var = 0) ∧
    (i.opcode ≠ .init → i.opcode ≠ .updateData → ∀ k, 2 ≤ k → k ≤ 10 → (encode c i).byte k = 0) ∧
    (i.opcode ≠ .tick → (encode c i).nowField = 0)

/-- A frame built without identifier bytes has none. -/
theorem make_no_identifier (op var : Byte) (now : Time) {k : Nat} (h2 : 2 ≤ k) (h10 : k ≤ 10) :
    (Frame.make op var [] now).byte k = 0 := by
  obtain rfl | rfl | rfl | rfl | rfl | rfl | rfl | rfl | rfl :
      k = 2 ∨ k = 3 ∨ k = 4 ∨ k = 5 ∨ k = 6 ∨ k = 7 ∨ k = 8 ∨ k = 9 ∨ k = 10 := by omega
  all_goals rfl

/-- A frame built without a timestamp has none. -/
theorem make_no_timestamp (op var : Byte) (id : List Byte) : (Frame.make op var id 0).nowField = 0 := by
  simp [Frame.make, Frame.nowField]

theorem init (v : Variant) (id : List Byte) : Statement (.init v id) := fun _ =>
  ⟨Opcode.ofByte_code .init, rfl, fun h => (by cases h), fun h => absurd rfl h, fun _ => make_no_timestamp _ _ _⟩

theorem enable : Statement .enable := fun _ =>
  ⟨Opcode.ofByte_code .enable, rfl, fun _ => rfl, fun _ _ _ => make_no_identifier _ _ _, fun _ => make_no_timestamp _ _ _⟩

theorem disable : Statement .disable := fun _ =>
  ⟨Opcode.ofByte_code .disable, rfl, fun _ => rfl, fun _ _ _ => make_no_identifier _ _ _, fun _ => make_no_timestamp _ _ _⟩

theorem startRepeating : Statement .startRepeating := fun _ =>
  ⟨Opcode.ofByte_code .startRepeating, rfl, fun _ => rfl, fun _ _ _ => make_no_identifier _ _ _,
    fun _ => make_no_timestamp _ _ _⟩

theorem stopRepeating : Statement .stopRepeating := fun _ =>
  ⟨Opcode.ofByte_code .stopRepeating, rfl, fun _ => rfl, fun _ _ _ => make_no_identifier _ _ _,
    fun _ => make_no_timestamp _ _ _⟩

theorem updateData (v : Variant) (id : List Byte) : Statement (.updateData v id) := fun _ =>
  ⟨Opcode.ofByte_code .updateData, rfl, fun h => (by cases h), fun _ h => absurd rfl h, fun _ => make_no_timestamp _ _ _⟩

theorem transmitOnce (v : Variant) : Statement (.transmitOnce v) := fun _ =>
  ⟨Opcode.ofByte_code .transmitOnce, rfl, fun h => (by cases h), fun _ _ _ => make_no_identifier _ _ _,
    fun _ => make_no_timestamp _ _ _⟩

theorem tick (v : Variant) (now : Time) : Statement (.tick v now) := fun _ =>
  ⟨Opcode.ofByte_code .tick, rfl, fun h => (by cases h), fun _ _ _ => make_no_identifier _ _ _, fun h => absurd rfl h⟩

end Sys2Proof.Laws.EncodedFrame
end

