-- ==== Sys2Proof/Laws/Step.lean ====
section
/-!
SUPPORT. Everything a step can be, said once, and the run of a machine step by step.
-/

namespace Sys2Proof.Machine

variable {s t : State}

/-- Which move a step that answers a next state was. -/
inductive Move (s t : State) : Prop where
  | reset (rest : List Input) (head : s.inputs = .reset :: rest) (eq : t = State.resetWith s.cfg rest)
  | idle (drained : s.inputs = []) (idle : s.txBusy = false) (eq : t = s)
  | completesLast (drained : s.inputs = []) (busy : s.txBusy = true) (eq : t = completeTx s)
  | completes (rest : List Input) (head : s.inputs = .txComplete :: rest) (busy : s.txBusy = true)
      (eq : t = completeTx (s.dropInput rest))
  | notEnabled (rest : List Input) (head : s.inputs = .txComplete :: rest) (idle : s.txBusy = false)
      (eq : t = s.dropInput rest)
  | frees (r : Request) (d : Draws) (rest : List Input) (head : s.inputs = .command r d :: rest) (busy : s.txBusy = true)
      (eq : t = completeTx s)
  | rejects (r : Request) (d : Draws) (rest : List Input) (c : Cause) (head : s.inputs = .command r d :: rest)
      (running : s.faultCause = 0) (error : r.instr s.cfg = .error c) (eq : t = (s.present d rest).recordFault c)
  | runs (r : Request) (d : Draws) (rest : List Input) (i : Instr) (head : s.inputs = .command r d :: rest)
      (running : s.faultCause = 0) (delivers : r.instr s.cfg = .ok i) (free : holds s i = false)
      (eq : exec i (s.present d rest) = .next t)

theorem blocked_of_busy (h : s.txBusy = true) : blocked s = .moved (completeTx s) := by simp [blocked, h]

theorem blocked_of_idle (h : s.txBusy = false) : blocked s = .stuck .halted := by simp [blocked, h]

/-- A command's turn, when it runs. -/
theorem selectCommand_runs {r : Request} {d : Draws} {rest : List Input} {i : Instr} (h0 : s.faultCause = 0)
    (hi : r.instr s.cfg = .ok i) (hh : holds s i = false) : selectCommand r d rest s = .execute i (s.present d rest) := by
  simp [selectCommand, isHalted_eq_false_iff.2 h0, hi, hh]

theorem selectCommand_rejects {r : Request} {d : Draws} {rest : List Input} {c : Cause} (h0 : s.faultCause = 0)
    (hi : r.instr s.cfg = .error c) : selectCommand r d rest s = .moved ((s.present d rest).recordFault c) := by
  simp [selectCommand, isHalted_eq_false_iff.2 h0, hi]

theorem selectCommand_halted {r : Request} {d : Draws} {rest : List Input} (h0 : s.faultCause ≠ 0) :
    selectCommand r d rest s = blocked s := by
  simp [selectCommand, isHalted_eq_true_iff.2 h0]

theorem selectCommand_held {r : Request} {d : Draws} {rest : List Input} {i : Instr} (h0 : s.faultCause = 0)
    (hi : r.instr s.cfg = .ok i) (hh : holds s i = true) : selectCommand r d rest s = blocked s := by
  simp [selectCommand, isHalted_eq_false_iff.2 h0, hi, hh]

/-- A command holds only while a transmission is in flight (R131, R136). -/
theorem holds_busy {i : Instr} (h : holds s i = true) : s.txBusy = true := by
  cases i <;> simp_all [holds, State.holdsBuffer]

/-- A step that answers a next state is one of the moves. -/
theorem step_move (h : step s = .next t) : Move s t := by
  unfold step select at h
  rcases hin : s.inputs with _ | ⟨a, rest⟩
  · simp only [hin] at h
    cases hb : s.txBusy
    · rw [transportStep_of_idle hb] at h
      cases h
      exact .idle hin hb rfl
    · rw [transportStep_of_busy hb] at h
      cases h
      exact .completesLast hin hb rfl
  · cases a with
    | reset =>
      simp only [hin] at h
      cases h
      exact .reset rest hin rfl
    | txComplete =>
      simp only [hin] at h
      cases hb : s.txBusy
      · rw [transportStep_of_idle (by simpa using hb)] at h
        cases h
        exact .notEnabled rest hin hb rfl
      · rw [transportStep_of_busy (by simpa using hb)] at h
        cases h
        exact .completes rest hin hb rfl
    | command r d =>
      simp only [hin] at h
      by_cases h0 : s.faultCause = 0
      · rcases hi : r.instr s.cfg with c | i
        · rw [selectCommand_rejects h0 hi] at h
          cases h
          exact .rejects r d rest c hin h0 hi rfl
        · cases hh : holds s i
          · rw [selectCommand_runs h0 hi hh] at h
            exact .runs r d rest i hin h0 hi hh h
          · rw [selectCommand_held h0 hi hh, blocked_of_busy (holds_busy hh)] at h
            cases h
            exact .frees r d rest hin (holds_busy hh) rfl
      · rw [selectCommand_halted h0] at h
        cases hb : s.txBusy
        · rw [blocked_of_idle hb] at h
          cases h
        · rw [blocked_of_busy hb] at h
          cases h
          exact .frees r d rest hin hb rfl

/-- The step of a command that runs. -/
theorem step_runs {r : Request} {d : Draws} {rest : List Input} {i : Instr} (hin : s.inputs = .command r d :: rest)
    (h0 : s.faultCause = 0) (hi : r.instr s.cfg = .ok i) (hh : holds s i = false) : step s = exec i (s.present d rest) := by
  simp only [step, select, hin, selectCommand_runs h0 hi hh]

/-- With no input left, the transport has its turn (R191, R231). -/
theorem step_drained (hin : s.inputs = []) : step s = .next (transportStep s) := by simp only [step, select, hin]

theorem step_reset {rest : List Input} (hin : s.inputs = .reset :: rest) : step s = .next (State.resetWith s.cfg rest) := by
  simp only [step, select, hin]

theorem step_txComplete {rest : List Input} (hin : s.inputs = .txComplete :: rest) :
    step s = .next (transportStep (s.dropInput rest)) := by simp only [step, select, hin]

theorem step_rejects {r : Request} {d : Draws} {rest : List Input} {c : Cause} (hin : s.inputs = .command r d :: rest)
    (h0 : s.faultCause = 0) (hi : r.instr s.cfg = .error c) : step s = .next ((s.present d rest).recordFault c) := by
  simp only [step, select, hin, selectCommand_rejects h0 hi]

/-- A held command waits for the completion (R131, R136, R195). -/
theorem step_held {r : Request} {d : Draws} {rest : List Input} {i : Instr} (hin : s.inputs = .command r d :: rest)
    (h0 : s.faultCause = 0) (hi : r.instr s.cfg = .ok i) (hh : holds s i = true) : step s = .next (completeTx s) := by
  simp only [step, select, hin, selectCommand_held h0 hi hh, blocked_of_busy (holds_busy hh)]

/-- A halted block's transport still completes (R203). -/
theorem step_halted_busy {r : Request} {d : Draws} {rest : List Input} (hin : s.inputs = .command r d :: rest)
    (h0 : s.faultCause ≠ 0) (hb : s.txBusy = true) : step s = .next (completeTx s) := by
  simp only [step, select, hin, selectCommand_halted h0, blocked_of_busy hb]

/-- A halted block takes no command (R203). -/
theorem step_halted_idle {r : Request} {d : Draws} {rest : List Input} (hin : s.inputs = .command r d :: rest)
    (h0 : s.faultCause ≠ 0) (hb : s.txBusy = false) : step s = .fault .halted := by
  simp only [step, select, hin, selectCommand_halted h0, blocked_of_idle hb]

/-- A run of one step more. -/
theorem run_succ_of_next (k : Nat) (h : step s = .next t) : core.run (k + 1) s = core.run k t := by
  simp only [Host.Core.run]
  rw [show core.step s = Host.Outcome.next t from h]

/-- A run of `m + n` steps is a run of `n` after one of `m`. -/
theorem run_add {m n : Nat} (h : core.run m s = .next t) : core.run (m + n) s = core.run n t := by
  induction m generalizing s with
  | zero =>
    cases h
    rw [Nat.zero_add]
  | succ m ih =>
    rw [Nat.add_right_comm]
    simp only [Host.Core.run] at h ⊢
    cases hs : core.step s with
    | next u =>
      rw [hs] at h
      exact ih h
    | fault r =>
      rw [hs] at h
      cases h
    | refused r =>
      rw [hs] at h
      cases h

end Sys2Proof.Machine
end

