-- ==== Sys2Proof/Tests/Slice0.lean ====
section
/-!
SUPPORT. The model's own tests. Frames, buffers and results are those of 95_test_vectors.md (W, ENC, DEC, CTL, SCH, TRN, P) or
worked by hand from the rule a test cites. The second half shows, for each statement with hypotheses, operands and states that
meet them, clause by clause.
-/

namespace Sys2Proof.Tests

open Sys2Proof.Machine

/-! ### Helpers -/

/-- The default parameters of R7 with numbers for the OPEN ones. -/
def cfg : Config where
  codeStd := 0x00
  codeAlt := 0x01
  bitOrder := .msbFirst
  startBit := true
  stopBit := false
  pwBits := 4
  markStd := 3
  markAlt := 5
  ticksPerSecond := 1000000
  updatePolicy := .fault
  readyModel := .draw
  lowPowerAdvancesJitter := false

/-- The identifiers of 95_test_vectors.md. -/
def idA : List Byte := [0x1F, 0xFC, 0x8F, 0x03, 0xF0, 0x01, 0xF8, 0x1F, 0x00]
def idA2 : List Byte := [0x01, 0x02, 0x03, 0x04, 0x05, 0x06, 0x07, 0x08, 0x09]
def idS : List Byte := [0xA5, 0x00, 0x00, 0x00, 0x00, 0x01]
def idZ : List Byte := [0x00, 0x00, 0x00, 0x00, 0x00, 0x00]

/-- After reset under a policy. -/
def fresh (p : UpdatePolicy) : State := State.resetWith { cfg with updatePolicy := p } []

/-- Set up for ALT with `idA`, the transport ready if asked; both gates as given (CTL1, CTL6, CTL17). -/
def setUp (p : UpdatePolicy) (ini rep : Bool) : State :=
  { fresh p with initialised := ini, repeating := rep, setupDone := true, activeVariant := 0x01,
                 pulseBuf := encodeBytes { cfg with updatePolicy := p } .alt idA, hwReady := true }

/-- The same, transmitting (CTL7). -/
def flying (p : UpdatePolicy) (ini : Bool) : State := sent .alt (setUp p ini true)

/-- A state with this fault recorded. -/
def faulted (c : Byte) (s : State) : State := { s with faultCause := c }

/-- A state with this left to happen. -/
def withInputs (is : List Input) (s : State) : State := { s with inputs := is }

/-- What a next state shows; none for a stop. -/
def shows {α : Type} (o : Host.Outcome State Fault Refusal) (f : State → α) : Option α :=
  match o with
  | .next t => some (f t)
  | .fault _ => none
  | .refused _ => none

def line : Draws := ⟨true, false⟩
def frameEnable : Frame := encode cfg .enable

/-! ### Well-formedness refuses what is ill-formed -/

theorem test_wf_init_std_needs_six : (Instr.init .std idA).wellFormed = false := by decide
theorem test_wf_init_alt_needs_nine : (Instr.init .alt idS).wellFormed = false := by decide
theorem test_wf_update_std_needs_six : (Instr.updateData .std [0xA5]).wellFormed = false := by decide
theorem test_wf_update_alt_needs_nine : (Instr.updateData .alt (idA ++ [0x00])).wellFormed = false := by decide
theorem test_wf_accepts : (Instr.init .std idS).wellFormed && (Instr.updateData .alt idA).wellFormed = true := by decide
theorem test_wf_config : cfg.wf := by decide
theorem test_wf_config_codes_differ : ¬ ({ cfg with codeAlt := 0x00 } : Config).wf := by decide
theorem test_wf_config_mark_std_positive : ¬ ({ cfg with markStd := 0 } : Config).wf := by decide
theorem test_wf_config_mark_std_fits : ¬ ({ cfg with markStd := 16 } : Config).wf := by decide
theorem test_wf_config_mark_alt_positive : ¬ ({ cfg with markAlt := 0 } : Config).wf := by decide
theorem test_wf_config_mark_alt_fits : ¬ ({ cfg with markAlt := 16 } : Config).wf := by decide

/-! ### Decoding: frames written out byte by byte -/

/-- DEC13. -/
theorem test_decode_init_std :
    decodeBytes cfg [0x01, 0x00, 0xA5, 0, 0, 0, 0, 0x01, 0, 0, 0, 0, 0, 0, 0, 0] = .ok (.init .std idS) := by rfl

/-- DEC12. -/
theorem test_decode_init_alt :
    decodeBytes cfg [0x01, 0x01, 0x1F, 0xFC, 0x8F, 0x03, 0xF0, 0x01, 0xF8, 0x1F, 0x00, 0, 0, 0, 0, 0] = .ok (.init .alt idA) := by
  rfl

/-- P1, step 2. -/
theorem test_decode_enable : decodeBytes cfg [0x02, 0, 0, 0, 0, 0, 0, 0, 0, 0, 0, 0, 0, 0, 0, 0] = .ok .enable := by rfl

/-- P4, step 7. -/
theorem test_decode_disable : decodeBytes cfg [0x03, 0, 0, 0, 0, 0, 0, 0, 0, 0, 0, 0, 0, 0, 0, 0] = .ok .disable := by rfl

/-- DEC15. -/
theorem test_decode_start : decodeBytes cfg [0x04, 0, 0, 0, 0, 0, 0, 0, 0, 0, 0, 0, 0, 0, 0, 0] = .ok .startRepeating := by rfl

/-- R71, opcode 0x05. -/
theorem test_decode_stop : decodeBytes cfg [0x05, 0, 0, 0, 0, 0, 0, 0, 0, 0, 0, 0, 0, 0, 0, 0] = .ok .stopRepeating := by rfl

/-- DEC14. -/
theorem test_decode_update :
    decodeBytes cfg [0x06, 0x01, 0x01, 0x02, 0x03, 0x04, 0x05, 0x06, 0x07, 0x08, 0x09, 0, 0, 0, 0, 0] =
      .ok (.updateData .alt idA2) := by rfl

/-- DEC16. -/
theorem test_decode_transmit :
    decodeBytes cfg [0x07, 0x01, 0, 0, 0, 0, 0, 0, 0, 0, 0, 0, 0, 0, 0, 0] = .ok (.transmitOnce .alt) := by rfl

/-- DEC11: little-endian. -/
theorem test_decode_tick :
    decodeBytes cfg [0x08, 0x00, 0, 0, 0, 0, 0, 0, 0, 0, 0, 0, 0x78, 0x56, 0x34, 0x12] = .ok (.tick .std 0x12345678) := by rfl

/-- R77: the reserved opcodes at the ends of their ranges. -/
theorem test_reject_opcodes :
    decodeBytes cfg [0x00, 0, 0, 0, 0, 0, 0, 0, 0, 0, 0, 0, 0, 0, 0, 0] = .error (.faults .reservedCommand) ∧
    decodeBytes cfg [0x09, 0, 0, 0, 0, 0, 0, 0, 0, 0, 0, 0, 0, 0, 0, 0] = .error (.faults .reservedCommand) ∧
    decodeBytes cfg [0xFF, 0x07, 0, 0, 0, 0, 0, 0, 0, 0, 0, 1, 0, 0, 0, 0] = .error (.faults .reservedCommand) := by
  exact ⟨rfl, rfl, rfl⟩

/-- R76: the selector is checked before the reserved bytes. -/
theorem test_reject_selector :
    decodeBytes cfg [0x07, 0x02, 0, 0, 0, 0, 0, 0, 0, 0, 0, 1, 0, 0, 0, 0] = .error (.faults .badVariant) := by rfl

/-- DEC7 to DEC9, and byte 1 of a command without a variant (D37). -/
theorem test_reject_reserved_bytes :
    decodeBytes cfg [0x01, 0x00, 1, 2, 3, 4, 5, 6, 7, 0, 0, 0, 0, 0, 0, 0] = .error (.faults .reservedField) ∧
    decodeBytes cfg [0x07, 0x00, 0, 0, 0, 0, 0, 0, 0, 0, 0, 0, 5, 0, 0, 0] = .error (.faults .reservedField) ∧
    decodeBytes cfg [0x08, 0x00, 0, 0, 0, 0, 0, 0, 0, 0, 0, 1, 0, 0, 0, 0] = .error (.faults .reservedField) ∧
    decodeBytes cfg [0x02, 0x01, 0, 0, 0, 0, 0, 0, 0, 0, 0, 0, 0, 0, 0, 0] = .error (.faults .reservedField) := by
  exact ⟨rfl, rfl, rfl, rfl⟩

/-- R54, R70: bytes that are not one whole frame are none. -/
theorem test_reject_fifteen_bytes : decodeBytes cfg [0x02, 0, 0, 0, 0, 0, 0, 0, 0, 0, 0, 0, 0, 0, 0] = .error .notAFrame := by rfl

/-- A table word, bytes from the least significant (log entry 7): `05 00 … 00`. -/
theorem test_table_word_stop : decodeTableWord 128 0x05 = some .stopRepeating := by rfl

/-- A row's number as spec/opcode_table.json prints it, `f[0]` first (log entry 7): the STOP_REPEATING row. -/
theorem test_table_word_printed : decodeTableWord 128 0x05000000000000000000000000000000 = some .stopRepeating := by rfl

/-- A table word with operands: `TICK ALT, 0x12345678`. -/
theorem test_table_word_tick : decodeTableWord 128 0x12345678000000000000000000000108 = some (.tick .alt 0x12345678) := by rfl

/-- R80: one line of each shape, and the lines an assembler refuses. -/
theorem test_assemble :
    assemble ⟨"TICK", [.variant .alt, .number 1000]⟩ = some (.tick .alt 1000) ∧
    assemble ⟨"INIT", .variant .std :: [.number 0xA5, .number 0, .number 0, .number 0, .number 0, .number 1]⟩ =
      some (.init .std idS) ∧
    assemble ⟨"ENABLE", [.number 0]⟩ = none ∧ assemble ⟨"NOP", []⟩ = none := by
  exact ⟨rfl, rfl, rfl, rfl⟩

/-! ### The encoder -/

/-- W3: the first byte 0xA5 under STD, cell by cell; slot 11 of every cell is at rest. -/
theorem test_encode_std_byte :
    (encodeByte cfg .std 0xA5) =
      [true, true, false, true, false, false, true, false, true, false].flatMap
        (fun b => List.replicate 11 (if b then 3 else 0) ++ [0]) := by decide +kernel

/-- R105 under `LSB_FIRST`: 0x01 begins with its mark, 0x80 ends with it. -/
theorem test_encode_alt_lsb_first :
    encodeByte { cfg with bitOrder := .lsbFirst } .alt 0x01 = List.replicate 4 5 ++ List.replicate 28 0 ∧
    encodeByte { cfg with bitOrder := .lsbFirst } .alt 0x80 = List.replicate 28 0 ++ List.replicate 4 5 := by decide +kernel

/-- ENC3: 720 entries, 121 marks, the last run at 696 to 706. -/
theorem test_encode_idS :
    (encodeBytes cfg .std idS).length = 720 ∧ (encodeBytes cfg .std idS).count 3 = 121 ∧
    (encodeBytes cfg .std idS)[695]? = some 0 ∧ (encodeBytes cfg .std idS)[696]? = some 3 ∧
    (encodeBytes cfg .std idS)[706]? = some 3 ∧ (encodeBytes cfg .std idS)[707]? = some 0 := by decide +kernel

/-- ENC10: 288 entries, 60 marks, the run at 28 to 31. -/
theorem test_encode_idA2 :
    (encodeBytes cfg .alt idA2).length = 288 ∧ (encodeBytes cfg .alt idA2).count 5 = 60 ∧
    (encodeBytes cfg .alt idA2)[27]? = some 0 ∧ (encodeBytes cfg .alt idA2)[28]? = some 5 := by decide +kernel

/-! ### One step of each command -/

/-- CTL1. -/
theorem test_init : shows (exec (.init .alt idA) (fresh .fault))
    (fun t => (t.initialised, t.setupDone, t.activeVariant, t.pulseBuf.length, t.trace.length)) = some (false, true, 0x01, 288, 2) := by
  decide +kernel

/-- CTL17: INIT for the other variant disables and leaves the repeat gate. -/
theorem test_init_again : shows (exec (.init .std idS) (setUp .fault true true))
    (fun t => (t.initialised, t.repeating, t.activeVariant, t.pulseBuf.length)) = some (false, true, 0x00, 720) := by
  decide +kernel

/-- CTL2. -/
theorem test_enable_before_init : shows (exec .enable (fresh .fault)) (fun t => (t.faultCause, t.trace)) = some (5, []) := by
  decide +kernel

/-- CTL6. -/
theorem test_enable : shows (exec .enable (setUp .fault false false)) (fun t => (t.initialised, t.trace)) =
    some (true, [.callEnableDma .alt]) := by decide +kernel

/-- CTL4. -/
theorem test_disable_before_init : shows (exec .disable (fresh .fault)) (fun t => (t.initialised, t.trace)) =
    some (false, [.callDisable]) := by decide +kernel

/-- CTL16: the transmission goes on. -/
theorem test_disable_in_flight : shows (exec .disable (flying .fault true)) (fun t => (t.initialised, t.txBusy)) =
    some (false, true) := by decide +kernel

/-- CTL5. -/
theorem test_start : shows (exec .startRepeating (fresh .fault)) (fun t => (t.repeating, t.trace)) = some (true, []) := by
  decide +kernel

/-- R135. -/
theorem test_stop : shows (exec .stopRepeating (setUp .fault true true)) (fun t => (t.repeating, t.initialised)) =
    some (false, true) := by decide +kernel

/-- CTL12: the buffer stays. -/
theorem test_update_hazard : shows (exec (.updateData .alt idA2) (flying .fault true))
    (fun t => (t.faultCause, t.pulseBuf == encodeBytes cfg .alt idA)) = some (7, true) := by decide +kernel

/-- CTL14: the snapshot keeps the old buffer. -/
theorem test_update_double_buffer : shows (exec (.updateData .alt idA2) (flying .doubleBuffer true))
    (fun t => (t.faultCause, t.pulseBuf == encodeBytes cfg .alt idA2, t.txSnapshot == some (encodeBytes cfg .alt idA))) =
      some (0, true, true) := by decide +kernel

/-- CTL7. -/
theorem test_transmit : shows (exec (.transmitOnce .alt) (setUp .fault true false))
    (fun t => (t.txBusy, t.nextFireAt, t.jitterIndex, t.trace == [.callTransmit .alt (encodeBytes cfg .alt idA)])) =
      some (true, 0, 0, true) := by decide +kernel

/-- CTL10 and CTL11: the gate is tested before the variant. -/
theorem test_transmit_other_variant :
    shows (exec (.transmitOnce .std) (setUp .fault true false)) State.faultCause = some 6 ∧
    shows (exec (.transmitOnce .std) (setUp .fault false false)) State.faultCause = some 0 := by decide +kernel

/-- SCH9: the sum wraps. -/
theorem test_tick_wraps : shows (exec (.tick .alt 0xFFFFF000) { setUp .fault true true with nextFireAt := 0xFFFFF000 })
    (fun t => (t.nextFireAt, t.jitterIndex, t.txBusy)) = some (0x194, 1, true) := by decide +kernel

/-- W9: low power, the index not advanced. -/
theorem test_tick_low_power :
    shows (exec (.tick .alt 20000) { setUp .fault true true with nextFireAt := 20000, jitterIndex := 5, lowPower := true })
      (fun t => (t.nextFireAt, t.jitterIndex, t.txBusy)) = some (120000, 5, true) := by decide +kernel

/-- 95_test_vectors.md 2.4: the due check at its corners. -/
theorem test_due_corners :
    isDue 0 0 = true ∧ isDue 1 0 = true ∧ isDue 0x7FFFFFFF 0 = true ∧ isDue 0x80000000 0 = false ∧ isDue 0xFFFFFFFF 0 = false := by
  decide

/-- TRN3: a fault does not stop the transport. -/
theorem test_completion_while_halted :
    shows (step (withInputs [.txComplete] (faulted 7 (flying .fault true)))) (fun t => (t.txBusy, t.faultCause, t.trace.length)) =
      some (false, 7, 2) := by decide +kernel

/-- TRN4: a valid frame has no step on a halted block. -/
theorem test_halted_frame :
    step (withInputs [.command (.frame frameEnable) line] (faulted 3 (fresh .fault))) = .fault .halted := by rfl

/-- CTL13: the held command waits, and runs after the completion. -/
theorem test_held_update_runs_after_completion :
    shows (core.run 2 (withInputs [.command (.typed (.updateData .alt idA2)) line] (flying .wait true)))
      (fun t => (State.trace t).drop 1 == [.complete, .callWaitForComplete, .callLoadBuffer (encodeBytes cfg .alt idA2)]) = some true := by
  decide +kernel

/-- A placed word runs first, from reset itself (log entry 2). -/
theorem test_placed_word_runs :
    step (State.reset.withFetchWord 128 0x04) = .next { State.reset with repeating := true } := by rfl

/-! ### States that meet the statements' hypotheses -/

theorem cfg_wf (p : UpdatePolicy) : ({ cfg with updatePolicy := p } : Config).wf := by cases p <;> decide

theorem buffer_of_idA (p : UpdatePolicy) : isBufferOf { cfg with updatePolicy := p } .alt (encodeBytes { cfg with updatePolicy := p } .alt idA) :=
  ⟨encodeBytes_length _ _ _, fun _ => encodeBytes_mem⟩

theorem fresh_inv (p : UpdatePolicy) : StateInv (fresh p) where
  config := cfg_wf p
  enabled := by intro h; cases h
  setUp := by intro h; cases h
  jitter := Nat.zero_lt_succ 14
  oneInFlight := rfl
  inFlight := by intro h; cases h
  idle := fun _ => rfl
  snapshot := rfl
  replays := by intro h; cases h
  cause := Nat.zero_le 7

theorem setUp_inv (p : UpdatePolicy) (ini rep : Bool) : StateInv (setUp p ini rep) where
  config := cfg_wf p
  enabled := fun _ => rfl
  setUp := fun _ => ⟨.alt, rfl, buffer_of_idA p⟩
  jitter := Nat.zero_lt_succ 14
  oneInFlight := rfl
  inFlight := by intro h; cases h
  idle := fun _ => rfl
  snapshot := rfl
  replays := by intro h; cases h
  cause := Nat.zero_le 7

theorem flying_inv (p : UpdatePolicy) (ini : Bool) : StateInv (flying p ini) where
  config := cfg_wf p
  enabled := fun _ => rfl
  setUp := fun _ => ⟨.alt, rfl, buffer_of_idA p⟩
  jitter := Nat.zero_lt_succ 14
  oneInFlight := rfl
  inFlight := fun _ => ⟨rfl, .alt, rfl, rfl⟩
  idle := by intro h; cases h
  snapshot := by cases p <;> rfl
  replays := fun _ => ⟨.alt, rfl, by cases p <;> rfl⟩
  cause := Nat.zero_le 7

theorem withInputs_inv {s : State} (h : StateInv s) (is : List Input) : StateInv (withInputs is s) where
  config := h.config
  enabled := h.enabled
  setUp := h.setUp
  jitter := h.jitter
  oneInFlight := h.oneInFlight
  inFlight := h.inFlight
  idle := h.idle
  snapshot := h.snapshot
  replays := h.replays
  cause := h.cause

theorem faulted_inv {s : State} (h : StateInv s) {c : Byte} (hc : c.toNat ≤ 7) : StateInv (faulted c s) where
  config := h.config
  enabled := h.enabled
  setUp := h.setUp
  jitter := h.jitter
  oneInFlight := h.oneInFlight
  inFlight := h.inFlight
  idle := h.idle
  snapshot := h.snapshot
  replays := h.replays
  cause := hc

/-- `NEXT_FIRE_AT` 0, both gates open, ready, the index at the end of the table. -/
def atTableEnd (low : Bool) : State := { setUp .fault true true with jitterIndex := 14, lowPower := low }

theorem witness_ResetLeavesTheStatedValues :
    (withInputs [.reset] (faulted 7 (flying .fault true))).inputs = .reset :: [] ∧
    ∃ t, step (withInputs [.reset] (faulted 7 (flying .fault true))) = .next t := ⟨rfl, _, rfl⟩

theorem witness_ResetMeetsTheInvariant : cfg.wf := by decide

theorem witness_StepKeepsTheInvariant :
    ∃ s t, StateInv s ∧ step s = .next t ∧ s.txBusy = true ∧ t.txBusy = false :=
  ⟨_, _, flying_inv .doubleBuffer true, rfl, rfl, rfl⟩

theorem witness_ReachableStatesMeetTheInvariant :
    ∃ t : State, core.run 3 (State.resetWith cfg
      [.command (.typed (.init .alt idA)) line, .command (.frame frameEnable) line, .command (.typed (.transmitOnce .alt)) line]) =
        .next t ∧ t.txBusy = true := ⟨_, rfl, rfl⟩

theorem witness_NoStepChangesTheConfiguration : ∃ s t, step s = .next t ∧ s.cfg = cfg := ⟨flying .fault true, _, rfl, rfl⟩

theorem witness_DecodeOfEncodeIsTheCommand :
    cfg.wf ∧ (Instr.init .alt idA).wellFormed = true ∧ (Instr.updateData .std idS).wellFormed = true ∧
    (Instr.tick .std 0xFFFFFFFF).wellFormed = true := by decide

theorem witness_AcceptedFramesAreCanonical : decode cfg frameEnable = .ok .enable := rfl

/-- Both ends of each reserved range, and of the range of the commands. -/
theorem witness_ReservedOpcodesFault :
    (Frame.make 0x00 0 [] 0).op.toNat = 0 ∧ 9 ≤ (Frame.make 0x09 0 [] 0).op.toNat ∧ 9 ≤ (Frame.make 0xFF 0 [] 0).op.toNat ∧
    ¬ 9 ≤ (Frame.make 0x08 0 [] 0).op.toNat := by decide

theorem witness_ReservedSelectorsFault :
    cfg.wf ∧ 2 ≤ (0x02 : Byte).toNat ∧ 2 ≤ (0xFF : Byte).toNat ∧
    decode cfg (Frame.make 0x08 0x02 [] 0) = .error .badVariant := ⟨by decide, by decide, by decide, rfl⟩

theorem witness_NonzeroReservedBytesFault :
    (decode cfg frameEnable = .ok .enable ∧ 15 < 16 ∧ usesByte .enable 15 = false) ∧
    (cfg.wf ∧ (Instr.init .std idS).wellFormed = true ∧
      (∀ k, k < 16 → usesByte (.init .std idS) k = true →
        ({ encode cfg (.init .std idS) with id6 := 7 } : Frame).byte k = (encode cfg (.init .std idS)).byte k) ∧
      usesByte (.init .std idS) 8 = false ∧ ({ encode cfg (.init .std idS) with id6 := 7 } : Frame).byte 8 ≠ 0) :=
  ⟨⟨rfl, by decide, rfl⟩, by decide, rfl, by decide, rfl, by decide⟩

theorem witness_TimestampFieldIsLittleEndian :
    decode cfg (encode cfg (.tick .alt 0xFFFFFFFF)) = .ok (.tick .alt 0xFFFFFFFF) := rfl

theorem witness_AssemblerReadsWhatIsWritten :
    (Instr.tick .alt 0xFFFFFFFF).wellFormed = true ∧ [AsmOperand.number 0].length ≠ Variant.std.dataLen ∧
    0xFF < 0x100 ∧ AsmOperand.number 0x100 ∈ [AsmOperand.number 0x100] ∧ 2 ^ 32 ≤ 0x100000000 := by decide

/-- A policy that does not hold; an idle transport under one that does; a command that never holds. -/
theorem witness_StepRunsTheDeliveredCommand :
    ((withInputs [.command (.frame frameEnable) line] (setUp .fault false true)).faultCause = 0 ∧
      (setUp .fault false true).cfg.updatePolicy ≠ .wait ∧ decode (setUp .fault false true).cfg frameEnable = .ok .enable) ∧
    ((setUp .wait true true).txBusy = false ∧ (setUp .wait true true).cfg.updatePolicy = .wait) ∧
    ((flying .wait true).txBusy = true ∧ (Instr.disable).opcode ≠ .init ∧ (Instr.disable).opcode ≠ .updateData) :=
  ⟨⟨rfl, by decide, rfl⟩, ⟨rfl, rfl⟩, rfl, by decide, by decide⟩

theorem witness_StepRunsThePlacedWord :
    State.reset.cfg = Config.default ∧ State.reset.faultCause = 0 ∧
    decodeTableWord 128 0x12345678000000000000000000000108 = some (.tick .alt 0x12345678) := ⟨rfl, rfl, rfl⟩

/-- One frame for each decoder fault. -/
theorem witness_DecodeFaultIsRecorded :
    (fresh .fault).faultCause = 0 ∧ decode (fresh .fault).cfg (Frame.make 0x00 0 [] 0) = .error .reservedCommand ∧
    decode (fresh .fault).cfg (Frame.make 0x07 0x02 [] 0) = .error .badVariant ∧
    decode (fresh .fault).cfg (Frame.make 0x02 0x01 [] 0) = .error .reservedField := ⟨rfl, rfl, rfl, rfl⟩

theorem witness_HeldCommandWaitsForTheCompletion :
    (withInputs [.command (.typed (.init .std idS)) line] (flying .wait true)).inputs =
      .command (.typed (.init .std idS)) line :: [] ∧
    (Request.typed (.init .std idS)).instr (flying .wait true).cfg = .ok (.init .std idS) ∧
    (Request.frame (encode cfg (.updateData .alt idA))).instr (flying .wait true).cfg = .ok (.updateData .alt idA) ∧
    (flying .wait true).faultCause = 0 ∧ (flying .wait true).cfg.updatePolicy = .wait ∧ (flying .wait true).txBusy = true :=
  ⟨rfl, rfl, rfl, rfl, rfl, rfl⟩

/-- Every clause: an idle block and a busy one, with a command, a completion and a reset next. -/
theorem witness_HaltedBlockTakesNoCommand :
    (faulted 1 (fresh .fault)).faultCause ≠ 0 ∧ (faulted 1 (fresh .fault)).txBusy = false ∧
    (faulted 7 (flying .fault true)).faultCause ≠ 0 ∧ (faulted 7 (flying .fault true)).txBusy = true ∧
    ∃ t, step (withInputs [.txComplete] (faulted 7 (flying .fault true))) = .next t ∧ t.faultCause = 7 :=
  ⟨by decide, rfl, by decide, rfl, _, rfl, rfl⟩

theorem witness_TransportCompletes :
    (withInputs [.txComplete] (flying .fault true)).txBusy = true ∧ (withInputs [.txComplete] (fresh .fault)).txBusy = false ∧
    (flying .fault true).inputs = [] ∧ (flying .fault true).txBusy = true ∧ (fresh .fault).inputs = [] ∧
    (fresh .fault).txBusy = false := ⟨rfl, rfl, rfl, rfl, rfl, rfl⟩

theorem witness_NoCommandEndsATransmission :
    (flying .fault true).txBusy = true ∧ ∃ t, exec .disable (flying .fault true) = .next t := ⟨rfl, _, rfl⟩

theorem witness_StepStopsExactlyWhenHalted :
    StateInv (withInputs [.command (.frame frameEnable) line] (faulted 7 (fresh .fault))) ∧
    step (withInputs [.command (.frame frameEnable) line] (faulted 7 (fresh .fault))) = .fault .halted :=
  ⟨withInputs_inv (faulted_inv (fresh_inv .fault) (by decide)) _, rfl⟩

theorem witness_TransmissionInFlightCompletes : StateInv (flying .wait true) ∧ (flying .wait true).txBusy = true :=
  ⟨flying_inv .wait true, rfl⟩

/-- Both ways a finite run can end. -/
theorem witness_FiniteRunsComeToRestOrHalt :
    StateInv (flying .fault true) ∧ StateInv (withInputs [.command (.frame frameEnable) line] (faulted 7 (flying .fault true))) :=
  ⟨flying_inv .fault true, withInputs_inv (faulted_inv (flying_inv .fault true) (by decide)) _⟩

theorem witness_FaultsArePrecise : ∃ t, exec .enable (fresh .fault) = .next t ∧ t.faultCause ≠ 0 := ⟨_, rfl, by decide⟩

/-- Every code of every command. -/
theorem witness_CommandsRecordTheirOwnCodes :
    shows (exec (.init .alt idS) (fresh .fault)) State.faultCause = some 4 ∧
    shows (exec (.init .alt idA) (flying .doubleBuffer true)) State.faultCause = some 7 ∧
    shows (exec .enable (fresh .fault)) State.faultCause = some 5 ∧
    shows (exec (.updateData .alt idS) (flying .fault true)) State.faultCause = some 4 ∧
    shows (exec (.updateData .alt idA) (fresh .fault)) State.faultCause = some 5 ∧
    shows (exec (.updateData .std idS) (flying .fault true)) State.faultCause = some 6 ∧
    shows (exec (.updateData .alt idA) (flying .fault true)) State.faultCause = some 7 ∧
    shows (exec (.transmitOnce .std) (setUp .fault true true)) State.faultCause = some 6 ∧
    shows (exec (.tick .std 0) (setUp .fault true true)) State.faultCause = some 6 := by decide +kernel

/-- Each guard closed alone, and the first difference that is not due. -/
theorem witness_GuardedNoOpsChangeNothing :
    (setUp .fault false true).faultCause = 0 ∧ (setUp .fault false true).initialised = false ∧
    (setUp .fault true false).repeating = false ∧ (flying .fault true).notReady ∧
    ({ setUp .fault true true with hwReady := false } : State).notReady ∧
    2 ^ 31 ≤ ((0x80000000 : Time) - (setUp .fault true true).nextFireAt).toNat ∧
    (setUp .fault true true).ready := by decide +kernel

theorem witness_InitSetsUpAndLoadsTheBuffer :
    (fresh .wait).faultCause = 0 ∧ (fresh .wait).txBusy = false ∧ idA.length = Variant.alt.dataLen := by decide

theorem witness_InitFaultsOnLengthThenHazard :
    (flying .fault true).faultCause = 0 ∧ (flying .fault true).cfg.updatePolicy ≠ .wait ∧ idS.length ≠ Variant.alt.dataLen ∧
    (flying .doubleBuffer true).cfg.updatePolicy ≠ .wait ∧ (flying .doubleBuffer true).txBusy = true ∧
    idA.length = Variant.alt.dataLen ∧ (flying .wait true).cfg.updatePolicy = .wait ∧ (flying .wait true).txBusy = true := by
  decide

theorem witness_EnableOpensTheGateAfterInit :
    (setUp .fault false true).cfg.wf ∧ (setUp .fault false true).faultCause = 0 ∧ (setUp .fault false true).setupDone = true ∧
    (setUp .fault false true).activeVariant = (setUp .fault false true).cfg.codeOf .alt ∧
    (fresh .fault).faultCause = 0 ∧ (fresh .fault).setupDone = false := by decide

theorem witness_DisableClosesTheGate : (fresh .fault).faultCause = 0 ∧ (flying .fault true).faultCause = 0 := by decide

theorem witness_RepeatGateFollowsStartAndStop : (fresh .fault).faultCause = 0 ∧ (flying .fault true).faultCause = 0 := by decide

/-- An idle transport, and a busy one under `DOUBLE_BUFFER`. -/
theorem witness_UpdateDataReplacesTheBuffer :
    (setUp .wait true true).faultCause = 0 ∧ idA2.length = Variant.alt.dataLen ∧ (setUp .wait true true).setupDone = true ∧
    (setUp .wait true true).activeVariant = (setUp .wait true true).cfg.codeOf .alt ∧ (setUp .wait true true).txBusy = false ∧
    (flying .doubleBuffer true).txBusy = true ∧ (flying .doubleBuffer true).cfg.updatePolicy = .doubleBuffer := by decide

/-- Each clause: held, wrong length, not set up, another variant, in flight. -/
theorem witness_UpdateDataFaultsLowestCodeFirst :
    ((flying .wait true).faultCause = 0 ∧ (flying .wait true).cfg.updatePolicy = .wait ∧ (flying .wait true).txBusy = true) ∧
    ((flying .fault true).cfg.updatePolicy ≠ .wait ∧ idS.length ≠ Variant.alt.dataLen) ∧
    (idS.length = Variant.std.dataLen ∧ (fresh .fault).setupDone = false) ∧
    ((flying .fault true).setupDone = true ∧ (flying .fault true).activeVariant ≠ (flying .fault true).cfg.codeOf .std) ∧
    ((flying .fault true).activeVariant = (flying .fault true).cfg.codeOf .alt ∧ (flying .fault true).txBusy = true ∧
      (flying .fault true).cfg.updatePolicy = .fault) := by decide

theorem witness_RepeatedUpdateDataIsIdempotent :
    ∃ t t', (setUp .fault true true).cfg = (setUp .fault true true).cfg ∧
      exec (.updateData .alt idA2) (setUp .fault true true) = .next t ∧ t.faultCause = 0 ∧
      exec (.updateData .alt idA2) t = .next t' ∧ t'.faultCause = 0 := ⟨_, _, rfl, rfl, rfl, rfl, rfl⟩

theorem witness_TransmitOnceSendsTheBuffer :
    (setUp .fault true false).faultCause = 0 ∧ (setUp .fault true false).initialised = true ∧ (setUp .fault true false).ready ∧
    (setUp .fault true false).activeVariant = (setUp .fault true false).cfg.codeOf .alt := by decide

theorem witness_TransmitOnceFaultsOnAnotherVariant :
    (setUp .fault true false).activeVariant ≠ (setUp .fault true false).cfg.codeOf .std ∧
    (setUp .fault true false).initialised = true ∧ (setUp .fault true false).ready ∧
    (setUp .fault false false).initialised = false ∧ (flying .fault true).notReady := by decide

theorem witness_ControllerCommandsLeaveTheSchedule :
    (Instr.transmitOnce .alt).opcode ≠ .tick ∧ ∃ t, exec (.transmitOnce .alt) (setUp .fault true true) = .next t :=
  ⟨by decide, _, rfl⟩

/-- A command that writes each register, and a tick that writes the schedule. -/
theorem witness_RegistersAreWrittenByTheirOwners :
    (∃ t, exec (.init .alt idA) (fresh .fault) = .next t ∧ t.setupDone ≠ (fresh .fault).setupDone ∧
      t.activeVariant ≠ (fresh .fault).activeVariant) ∧
    (∃ t, exec .disable (setUp .fault true true) = .next t ∧ t.initialised ≠ (setUp .fault true true).initialised) ∧
    (∃ t, exec .stopRepeating (setUp .fault true true) = .next t ∧ t.repeating ≠ (setUp .fault true true).repeating) ∧
    (∃ t, exec (.tick .alt 0) (setUp .fault true true) = .next t ∧ t.nextFireAt ≠ (setUp .fault true true).nextFireAt ∧
      t.jitterIndex ≠ (setUp .fault true true).jitterIndex ∧ t.txBusy ≠ (setUp .fault true true).txBusy) :=
  ⟨⟨_, rfl, by decide, by decide⟩, ⟨_, rfl, by decide⟩, ⟨_, rfl, by decide⟩, _, rfl, by decide, by decide, by decide⟩

theorem witness_TraceOnlyGrows :
    ∃ t, step (flying .fault true) = .next t ∧ (∀ rest, (flying .fault true).inputs ≠ .reset :: rest) ∧ t.trace.length = 2 :=
  ⟨_, rfl, fun _ h => (by cases h), rfl⟩

theorem witness_SetUpLastsUntilReset :
    (∃ t, exec (.init .alt idA) (fresh .fault) = .next t ∧ t.faultCause = 0) ∧
    ∃ t, step (flying .fault true) = .next t ∧ (flying .fault true).setupDone = true ∧
      ∀ rest, (flying .fault true).inputs ≠ .reset :: rest := ⟨⟨_, rfl, rfl⟩, _, rfl, rfl, fun _ h => (by cases h)⟩

theorem witness_VariantAndBufferAreUnreadBeforeInit :
    (fresh .fault).setupDone = false ∧ (fresh .fault).initialised = false := by decide

/-- One state for each row of the table; the row Uninitialized has no variant set up. -/
theorem witness_LifecycleFollowsTheTable :
    (StateInv (fresh .fault) ∧ (fresh .fault).lifecycle = .uninitialized ∧ (fresh .fault).setupDone = false) ∧
    (StateInv (setUp .fault false true) ∧ (setUp .fault false true).lifecycle = .initialized) ∧
    (StateInv (setUp .fault true true) ∧ (setUp .fault true true).lifecycle = .armed ∧ (setUp .fault true true).ready) ∧
    (StateInv (flying .fault true) ∧ (flying .fault true).lifecycle = .transmitting) ∧
    (flying .fault true).faultCause = 0 ∧ (flying .fault true).cfg.updatePolicy ≠ .wait ∧ idA.length = Variant.alt.dataLen ∧
    (flying .fault true).activeVariant = (flying .fault true).cfg.codeOf .alt :=
  ⟨⟨fresh_inv _, rfl, rfl⟩, ⟨setUp_inv _ _ _, rfl⟩, ⟨setUp_inv _ _ _, rfl, by decide⟩, ⟨flying_inv _ _, rfl⟩, rfl, by decide, rfl, rfl⟩

/-- The last difference that is due, and the first that is not. -/
theorem witness_TickFiresExactlyWhenDue :
    (setUp .fault true true).initialised = true ∧ (setUp .fault true true).repeating = true ∧ (setUp .fault true true).ready ∧
    (setUp .fault true true).activeVariant = (setUp .fault true true).cfg.codeOf .alt ∧
    (∃ t, exec (.tick .alt 0x7FFFFFFF) (setUp .fault true true) = .next t ∧ t.txBusy = true) ∧
    (∃ t, exec (.tick .alt 0x80000000) (setUp .fault true true) = .next t ∧ t.txBusy = false) :=
  ⟨rfl, rfl, by decide, rfl, ⟨_, rfl, rfl⟩, _, rfl, rfl⟩

theorem witness_DueTickSchedulesByTheJitterTable :
    (atTableEnd false).faultCause = 0 ∧ (atTableEnd false).initialised = true ∧ (atTableEnd false).repeating = true ∧
    (atTableEnd false).ready ∧ ((0x7FFFFFFF : Time) - (atTableEnd false).nextFireAt).toNat < 2 ^ 31 ∧
    (atTableEnd false).activeVariant = (atTableEnd false).cfg.codeOf .alt ∧ (atTableEnd false).lowPower = false ∧
    (atTableEnd false).jitterIndex.toNat < 15 := by decide

theorem witness_LowPowerTickTakesTheFixedInterval :
    (atTableEnd true).faultCause = 0 ∧ (atTableEnd true).initialised = true ∧ (atTableEnd true).repeating = true ∧
    (atTableEnd true).ready ∧ ((0x7FFFFFFF : Time) - (atTableEnd true).nextFireAt).toNat < 2 ^ 31 ∧
    (atTableEnd true).activeVariant = (atTableEnd true).cfg.codeOf .alt ∧ (atTableEnd true).lowPower = true := by decide

/-- A due tick, and each reason for a tick not to be checked. -/
theorem witness_TickChecksTheVariantOnlyWhenDue :
    (setUp .fault true true).faultCause = 0 ∧ (setUp .fault true true).activeVariant ≠ (setUp .fault true true).cfg.codeOf .std ∧
    (setUp .fault true true).ready ∧ ((0x7FFFFFFF : Time) - (setUp .fault true true).nextFireAt).toNat < 2 ^ 31 ∧
    2 ^ 31 ≤ ((0x80000000 : Time) - (setUp .fault true true).nextFireAt).toNat ∧ (setUp .fault false true).initialised = false ∧
    (setUp .fault true false).repeating = false ∧ (flying .fault true).notReady := by decide

/-- The smallest and the largest difference that are not due, and the units that are still missing there. -/
theorem witness_DueCheckSurvivesTheWrap :
    2 ^ 31 ≤ (0x80000000 : Time).toNat ∧ 0x7FFFFFFF < 2 ^ 32 - (0x80000000 : Time).toNat ∧
    0x80000000 = 2 ^ 32 - (0x80000000 : Time).toNat ∧ 2 ^ 31 ≤ (0xFFFFFFFF : Time).toNat ∧
    0 < 2 ^ 32 - (0xFFFFFFFF : Time).toNat ∧ 1 = 2 ^ 32 - (0xFFFFFFFF : Time).toNat := by decide

theorem witness_IntervalsAreThoseOfTheTable :
    (atTableEnd false).cfg.ticksPerSecond = 1000000 ∧
    (∃ t, exec (.tick .alt 0) (atTableEnd false) = .next t ∧ t.trace ≠ (atTableEnd false).trace ∧ (atTableEnd false).lowPower = false) ∧
    (∃ t, exec (.tick .alt 0) (atTableEnd true) = .next t ∧ t.trace ≠ (atTableEnd true).trace ∧ (atTableEnd true).lowPower = true) :=
  ⟨rfl, ⟨_, rfl, (by intro h; cases h), rfl⟩, _, rfl, (by intro h; cases h), rfl⟩

theorem witness_FifteenFiresCloseTheJitterCycle :
    (atTableEnd false).faultCause = 0 ∧ (atTableEnd false).initialised = true ∧ (atTableEnd false).repeating = true ∧
    (atTableEnd false).ready ∧ (atTableEnd false).activeVariant = (atTableEnd false).cfg.codeOf .alt ∧
    (atTableEnd false).lowPower = false ∧ (atTableEnd false).jitterIndex.toNat < 15 := by decide

theorem witness_FiresAreAtLeastTheBaseIntervalApart :
    ∃ t u w, exec (.tick .alt 0) (setUp .fault true true) = .next t ∧ t.trace ≠ (setUp .fault true true).trace ∧
      (setUp .fault true true).lowPower = false ∧ u.nextFireAt = t.nextFireAt ∧ exec (.tick .alt 4500) u = .next w ∧
      w.trace ≠ u.trace :=
  ⟨_, { setUp .fault true true with nextFireAt := 4500 }, _, rfl, (by intro h; cases h), rfl, rfl, rfl, (by intro h; cases h)⟩

/-- Both commands that transmit. -/
theorem witness_OnlyOpenGatesAndAnIdleTransportTransmit :
    (∃ t, exec (.transmitOnce .alt) (setUp .fault true false) = .next t ∧
      .callTransmit .alt (setUp .fault true false).pulseBuf ∈ newEvents (setUp .fault true false) t) ∧
    (∃ t, exec (.tick .alt 0) (setUp .fault true true) = .next t ∧
      .callTransmit .alt (setUp .fault true true).pulseBuf ∈ newEvents (setUp .fault true true) t) :=
  ⟨⟨_, rfl, .head _⟩, _, rfl, .head _⟩

/-- A tick that is gated, not due, or for another variant; each way a poll is not made or not open. -/
theorem witness_DrawsShowOnlyWhereTheyArePolled :
    tickFires .alt 0 (setUp .fault true false) = false ∧ tickFires .alt 0x80000000 (setUp .fault true true) = false ∧
    tickFires .std 0 (setUp .fault true true) = false ∧ (setUp .fault false true).initialised = false ∧
    (flying .fault true).txBusy = true ∧ (Instr.tick .alt 0).opcode = .tick ∧ (setUp .fault true false).repeating = false ∧
    (Instr.enable).opcode ≠ .tick ∧ (Instr.enable).opcode ≠ .transmitOnce := by decide

/-- A step during a transmission, and the step that starts one. -/
theorem witness_BufferInFlightNeverChanges :
    (∃ t, StateInv (withInputs [.command (.typed (.updateData .alt idA2)) line] (flying .doubleBuffer true)) ∧
      step (withInputs [.command (.typed (.updateData .alt idA2)) line] (flying .doubleBuffer true)) = .next t ∧ t.txBusy = true) ∧
    (∃ t, StateInv (withInputs [.command (.typed (.transmitOnce .alt)) line] (setUp .fault true true)) ∧
      step (withInputs [.command (.typed (.transmitOnce .alt)) line] (setUp .fault true true)) = .next t ∧ t.txBusy = true) :=
  ⟨⟨_, withInputs_inv (flying_inv _ _) _, rfl, rfl⟩, _, withInputs_inv (setUp_inv _ _ _) _, rfl, rfl⟩

theorem witness_EncodedBufferHasTheFormulasLength :
    idS.length = Variant.std.dataLen ∧ idA.length = Variant.alt.dataLen ∧ idS.length ≠ Variant.alt.dataLen := by decide

/-- The last slot of the last bit of the last byte. -/
theorem witness_EveryEntryFollowsTheClosedForm :
    idS.length = 6 ∧ 5 < 6 ∧ 9 < 10 ∧ 11 < 12 ∧ 120 * 5 + 12 * 9 + 11 = 719 ∧
    idA.length = 9 ∧ 8 < 9 ∧ 7 < 8 ∧ 3 < 4 ∧ 32 * 8 + 4 * 7 + 3 = 287 := by decide

theorem witness_MarksAreCountedByTheOneBits :
    cfg.wf ∧ cfg.startBit = true ∧ cfg.stopBit = false ∧ idS.length = 6 ∧ idA.length = 9 ∧ idA.length = Variant.alt.dataLen := by
  decide

theorem witness_IdentifierCanBeReadBack :
    cfg.wf ∧ idS.length = Variant.std.dataLen ∧ 5 < Variant.std.dataLen ∧ 9 < Variant.std.bitsPerByte ∧
    idA.length = Variant.alt.dataLen ∧ 8 < Variant.alt.dataLen ∧ 7 < Variant.alt.bitsPerByte := by decide

theorem witness_EncodingDependsOnItsParametersOnly :
    cfg.mark .std = ({ cfg with markAlt := 7, updatePolicy := .wait } : Config).mark .std ∧ cfg.bitOrder = .msbFirst := by decide

theorem witness_EncoderCornerCases :
    cfg.startBit = true ∧ cfg.stopBit = false ∧ idS.length = 6 ∧ 59 < 60 ∧ (idS ++ [0]).length = Variant.std.dataLen + 1 ∧
    (idA.drop 1).length + 1 = Variant.alt.dataLen := by decide

theorem witness_WorkedExampleOfTheAltIdentifier : cfg.bitOrder = .msbFirst ∧ cfg.wf ∧ 287 < 288 := by decide

end Sys2Proof.Tests
end

section
/-!
PROOF. When a command is held, by its opcode and the update policy, and the step of a delivered command that is not (R11, R76, R82).
-/

namespace Sys2Proof.Machine

theorem State.holdsBuffer_eq_true_iff (s : State) :
    s.holdsBuffer = true ↔ s.cfg.updatePolicy = .wait ∧ s.txBusy = true := by
  simp [State.holdsBuffer]

/-- R131, R136: only the two commands that write the buffer are held, under `WAIT` and during a transmission. -/
theorem holds_eq_true_iff (s : State) (i : Instr) :
    holds s i = true ↔ (i.opcode = .init ∨ i.opcode = .updateData) ∧ s.cfg.updatePolicy = .wait ∧ s.txBusy = true := by
  cases i with
  | init _ _ | updateData _ _ => simp [holds, Instr.opcode, State.holdsBuffer_eq_true_iff]
  | enable | disable | startRepeating | stopRepeating | transmitOnce _ | tick _ _ => simp [holds, Instr.opcode]

/-- A command is not held if the policy does not hold, the transport is idle, or the command leaves the buffer alone. -/
theorem holds_eq_false {s : State} {i : Instr}
    (free : s.cfg.updatePolicy ≠ .wait ∨ s.txBusy = false ∨ (i.opcode ≠ .init ∧ i.opcode ≠ .updateData)) :
    holds s i = false := by
  rw [← Bool.not_eq_true, holds_eq_true_iff]
  rintro ⟨writes, policy, busy⟩
  rcases free with otherPolicy | idle | ⟨notInit, notUpdate⟩
  · exact otherPolicy policy
  · simp [busy] at idle
  · exact writes.elim notInit notUpdate

/-- Settles O14: the command is not held, so its turn runs it; a frame delivers what it decodes to, a typed command itself. -/
theorem stepRunsTheDeliveredCommand : Obligations.StepRunsTheDeliveredCommand := by
  intro s d rest i running free
  have notHeld : holds s i = false := holds_eq_false free
  exact ⟨fun _ head decodes => step_runs head running decodes notHeld,
    fun head => step_runs head running rfl notHeld⟩

end Sys2Proof.Machine
end

section
/-!
PROOF. The invariant of reachable states (10_state.md R35): each operation on the state keeps it, so every effect of a command, every
move and every run does.
-/

namespace Sys2Proof.Machine

variable {s t : State}

/-! ### Events that neither request nor complete a transmission -/

/-- An event that neither requests a transmission nor completes one (R32, R35 d, R35 f). -/
def TraceEvent.quiet : TraceEvent → Bool
  | .callTransmit _ _ | .complete => false
  | .callInitialize _ | .callEnableDma _ | .callDisable | .callLoadBuffer _ | .callWaitForComplete => true

theorem flightAfter_quiet (b : Bool) {es : List TraceEvent} (calls : es.all TraceEvent.quiet = true) :
    flightAfter b es = some b := by
  induction es with
  | nil => rfl
  | cons e es ih => cases e <;> simp_all [flightAfter, TraceEvent.quiet]

theorem lastTransmitFrom_quiet (l : Option (Variant × List Nat)) {es : List TraceEvent}
    (calls : es.all TraceEvent.quiet = true) : lastTransmitFrom l es = l := by
  induction es with
  | nil => rfl
  | cons e es ih => cases e <;> simp_all [lastTransmitFrom, TraceEvent.quiet]

theorem waitEvents_quiet (c : Config) : (waitEvents c).all TraceEvent.quiet = true := by
  unfold waitEvents
  split <;> rfl

theorem waitEvents_length_le (c : Config) : (waitEvents c).length ≤ 1 := by
  unfold waitEvents
  split <;> simp

/-! ### What is replayed -/

theorem State.replayed_of_doubleBuffer (policy : s.cfg.updatePolicy = .doubleBuffer) : s.replayed = s.txSnapshot.getD [] := by
  simp [State.replayed, policy]

theorem State.replayed_of_not_doubleBuffer (policy : s.cfg.updatePolicy ≠ .doubleBuffer) : s.replayed = s.pulseBuf := by
  cases h : s.cfg.updatePolicy <;> simp_all [State.replayed]

/-- R190: what a transmission replays when it is requested is the buffer as it stands, under every policy. -/
theorem replayed_sent (v : Variant) (s : State) : (sent v s).replayed = s.pulseBuf := by
  by_cases policy : s.cfg.updatePolicy = .doubleBuffer
  · rw [State.replayed_of_doubleBuffer (s := sent v s) policy]
    simp [sent, policy]
  · exact State.replayed_of_not_doubleBuffer (s := sent v s) policy

/-! ### What a command encodes, checks, schedules and records -/

/-- R101, R106: what the encoder makes is a buffer of its variant. -/
theorem isBufferOf_encodeBytes {c : Config} {v : Variant} {id : List Byte} (fits : idFits v id = true) :
    isBufferOf c v (encodeBytes c v id) := by
  have length : id.length = v.dataLen := by simpa [idFits] using fits
  refine ⟨?_, fun w hw => encodeBytes_mem hw⟩
  rw [encodeBytes_length, length]
  cases v <;> rfl

theorem namesActive_iff {v : Variant} : s.namesActive v = true ↔ s.activeVariant = s.cfg.codeOf v := by
  rw [State.namesActive, beq_iff_eq, eq_comm]

/-- R160 to R162, R172: what a tick that fires has found. -/
theorem tickFires_iff {v : Variant} {now : Time} :
    tickFires v now s = true ↔ s.faultCause = 0 ∧ s.initialised = true ∧ s.repeating = true ∧ s.pollReady = true ∧
      isDue now s.nextFireAt = true ∧ s.activeVariant = s.cfg.codeOf v := by
  simp [tickFires, isHalted_eq_false_iff, namesActive_iff, and_assoc]

theorem scheduleLowRate_eq (now : Time) (s : State) :
    scheduleLowRate now s =
      { s with
        nextFireAt := now + BitVec.ofNat 32 s.cfg.lowRateInterval
        jitterIndex := if s.cfg.lowPowerAdvancesJitter then nextJitterIndex s.jitterIndex else s.jitterIndex } := by
  unfold scheduleLowRate
  cases s.cfg.lowPowerAdvancesJitter <;> simp [State.setDeadline, State.advanceJitter]

theorem scheduleJitter_eq (now : Time) (j : Nat) (s : State) :
    scheduleJitter now j s =
      { s with
        nextFireAt := now + BitVec.ofNat 32 (jitterInterval j)
        jitterIndex := nextJitterIndex s.jitterIndex } := rfl

/-- R201: the codes are 0 to 7. -/
theorem Cause.code_le_seven (c : Cause) : c.code.toNat ≤ 7 := by cases c <;> decide

/-! ### Each operation keeps the invariant -/

/-- R230: reset, under any admissible configuration. -/
theorem StateInv.resetWith {c : Config} (admissible : c.wf) (rest : List Input) : StateInv (State.resetWith c rest) where
  config := admissible
  enabled := by simp [State.resetWith]
  setUp := by simp [State.resetWith]
  jitter := (by decide : (0 : BitVec 4).toNat < jitterLen)
  oneInFlight := rfl
  inFlight := by simp [State.resetWith]
  idle _ := rfl
  snapshot := rfl
  replays := by simp [State.resetWith]
  cause := Nat.zero_le _

theorem StateInv.present (inv : StateInv s) (d : Draws) (rest : List Input) : StateInv (s.present d rest) :=
  { inv with }

theorem StateInv.dropInput (inv : StateInv s) (rest : List Input) : StateInv (s.dropInput rest) :=
  { inv with }

theorem StateInv.setRepeating (inv : StateInv s) (b : Bool) : StateInv (s.setRepeating b) :=
  { inv with }

/-- R200: a fault records one of the causes' codes and changes nothing else. -/
theorem StateInv.recordFault (inv : StateInv s) (c : Cause) : StateInv (s.recordFault c) :=
  { inv with cause := Cause.code_le_seven c }

/-- R22, R35 (a): the gate closes at any time, and opens after INIT. -/
theorem StateInv.setInitialised (inv : StateInv s) {b : Bool} (afterInit : b = true → s.setupDone = true) :
    StateInv (s.setInitialised b) :=
  { inv with enabled := afterInit }

/-- R164, R165: a new deadline, and an index that stays in the table. -/
theorem StateInv.schedule (inv : StateInv s) (deadline : Time) {i : BitVec 4} (inTable : i.toNat < jitterLen) :
    StateInv { s with nextFireAt := deadline, jitterIndex := i } :=
  { inv with jitter := inTable }

/-- R35 (d), (f): calls other than `Transmit` leave requests, completions and the last request as they were. -/
theorem StateInv.appendQuiet (inv : StateInv s) {es : List TraceEvent} (calls : es.all TraceEvent.quiet = true) :
    StateInv { s with trace := s.trace ++ es } :=
  { inv with
    oneInFlight := by simp [flightAfter_append, inv.oneInFlight, flightAfter_quiet _ calls]
    replays := fun busy => by
      obtain ⟨v, variant, last⟩ := inv.replays busy
      refine ⟨v, variant, ?_⟩
      rw [lastTransmit, lastTransmitFrom_append, lastTransmitFrom_quiet _ calls]
      exact last }

/-- R29, R59: a new buffer of the variant set up, unless a transmission replays the old one from `PULSE_BUF`. -/
theorem StateInv.storeBuffer (inv : StateInv s) {v : Variant} {buf : List Nat} (active : s.activeVariant = s.cfg.codeOf v)
    (fits : isBufferOf s.cfg v buf) (free : s.txBusy = false ∨ s.cfg.updatePolicy = .doubleBuffer) :
    StateInv (s.storeBuffer buf) :=
  { inv with
    setUp := fun _ => ⟨v, active, fits⟩
    replays := fun busy => by
      have policy : s.cfg.updatePolicy = .doubleBuffer := free.resolve_left (by simpa using busy)
      have unchanged : (s.storeBuffer buf).replayed = s.replayed := by
        rw [State.replayed_of_doubleBuffer policy]
        exact State.replayed_of_doubleBuffer (s := s.storeBuffer buf) policy
      rw [unchanged]
      exact inv.replays busy }

/-- R131: the registers INIT writes, on an idle transport. -/
theorem StateInv.setUpWith (inv : StateInv s) {v : Variant} {buf : List Nat} (fits : isBufferOf s.cfg v buf)
    (idle : s.txBusy = false) :
    StateInv { s with initialised := false, activeVariant := s.cfg.codeOf v, setupDone := true, pulseBuf := buf } :=
  { inv with
    enabled := fun _ => rfl
    setUp := fun _ => ⟨v, rfl, fits⟩
    inFlight := fun busy => absurd busy (by simp [idle])
    replays := fun busy => absurd busy (by simp [idle]) }

/-- R133, R190: a request on an idle transport, for the variant set up. -/
theorem StateInv.sent (inv : StateInv s) {v : Variant} (setUp : s.setupDone = true) (active : s.activeVariant = s.cfg.codeOf v)
    (idle : s.txBusy = false) : StateInv (sent v s) :=
  { inv with
    oneInFlight := by simp [Machine.sent, flightAfter_append, inv.oneInFlight, idle, flightAfter]
    inFlight := fun _ => ⟨setUp, v, rfl, active⟩
    idle := fun busy => by simp [Machine.sent] at busy
    snapshot := by
      have none : s.txSnapshot.isSome = false := by simpa [idle] using inv.snapshot
      by_cases policy : s.cfg.updatePolicy = .doubleBuffer <;> simp [Machine.sent, policy, none]
    replays := fun _ => by
      refine ⟨v, rfl, ?_⟩
      rw [replayed_sent]
      simp [Machine.sent, lastTransmit, lastTransmitFrom_append, lastTransmitFrom] }

/-- R191: the transport's completion. -/
theorem StateInv.completeTx (inv : StateInv s) (busy : s.txBusy = true) : StateInv (completeTx s) :=
  { inv with
    oneInFlight := by simp [Machine.completeTx, flightAfter_append, inv.oneInFlight, busy, flightAfter]
    inFlight := fun busy => by simp [Machine.completeTx] at busy
    idle := fun _ => rfl
    snapshot := by simp [Machine.completeTx]
    replays := fun busy => by simp [Machine.completeTx] at busy }

/-! ### Every effect of a command keeps it -/

/-- A tick that fires sends the buffer after any schedule that leaves the index in the table (R133, R164, R165). -/
theorem StateInv.fire (inv : StateInv s) {v : Variant} {now : Time} (fires : tickFires v now s = true) (deadline : Time)
    {i : BitVec 4} (inTable : i.toNat < jitterLen) :
    StateInv (Machine.sent v { s with nextFireAt := deadline, jitterIndex := i }) := by
  obtain ⟨-, enabled, -, ready, -, active⟩ := tickFires_iff.1 fires
  exact (inv.schedule deadline inTable).sent (inv.enabled enabled) active (pollReady_idle ready)

theorem StateInv.effect {i : Instr} (inv : StateInv s) (e : Effect i s t) : StateInv t := by
  cases e with
  | faults c _ => exact inv.recordFault c
  | transmitIdle _ | tickIdle _ => exact inv
  | init fits idle =>
    have waited := (inv.setUpWith (isBufferOf_encodeBytes fits) idle).appendQuiet (waitEvents_quiet s.cfg)
    exact (waited.appendQuiet (es := [.callInitialize _]) rfl).appendQuiet (es := [.callLoadBuffer _]) rfl
  | enable setUp _ =>
    exact (inv.setInitialised (b := true) fun _ => setUp).appendQuiet (es := [.callEnableDma _]) rfl
  | disable =>
    exact (inv.setInitialised (b := false) (by simp)).appendQuiet (es := [.callDisable]) rfl
  | startRepeating => exact inv.setRepeating true
  | stopRepeating => exact inv.setRepeating false
  | @updateData _ id _ fits _ active free =>
    have stored := inv.storeBuffer (namesActive_iff.1 active) (isBufferOf_encodeBytes (id := id) fits) free
    exact (stored.appendQuiet (waitEvents_quiet s.cfg)).appendQuiet (es := [.callLoadBuffer _]) rfl
  | transmitOnce enabled ready active =>
    exact inv.sent (inv.enabled enabled) (namesActive_iff.1 active) (pollReady_idle ready)
  | tickLowRate fires _ =>
    rw [scheduleLowRate_eq]
    refine inv.fire fires _ ?_
    split
    · exact nextJitterIndex_lt _
    · exact inv.jitter
  | tickJitter fires _ _ =>
    rw [scheduleJitter_eq]
    exact inv.fire fires _ (nextJitterIndex_lt _)

/-! ### The obligations on the invariant -/

/-- Settles O3: by the move the step was; the invariant is kept by each operation, and so by each effect of a command. -/
theorem stepKeepsTheInvariant : Obligations.StepKeepsTheInvariant := by
  intro s t inv stepped
  cases step_move stepped with
  | reset rest _ eq => exact eq ▸ .resetWith inv.config rest
  | idle _ _ eq => exact eq ▸ inv
  | completesLast _ busy eq => exact eq ▸ inv.completeTx busy
  | completes rest _ busy eq => exact eq ▸ (inv.dropInput rest).completeTx busy
  | notEnabled rest _ _ eq => exact eq ▸ inv.dropInput rest
  | frees _ _ _ _ busy eq => exact eq ▸ inv.completeTx busy
  | rejects _ d rest c _ _ _ eq => exact eq ▸ (inv.present d rest).recordFault c
  | runs _ d rest _ _ _ _ _ eq => exact (inv.present d rest).effect (exec_effect eq).2

/-- Settles O2: the default parameters are admissible, and reset meets the invariant under all that are. -/
theorem resetMeetsTheInvariant : Obligations.ResetMeetsTheInvariant :=
  ⟨default_wf, .resetWith default_wf [], fun _ rest admissible => .resetWith admissible rest⟩

/-- What every step keeps, every run keeps. -/
theorem run_keeps {P : State → Prop} (keeps : ∀ s t, P s → step s = .next t → P t) {n : Nat} (start : P s)
    (runs : core.run n s = .next t) : P t := by
  induction n generalizing s with
  | zero =>
    cases runs
    exact start
  | succ n ih =>
    simp only [Host.Core.run] at runs
    split at runs
    · next u stepped => exact ih (keeps s u start stepped) runs
    · cases runs
    · cases runs

/-- Settles O4: reset meets the invariant and every step keeps it. -/
theorem reachableStatesMeetTheInvariant : Obligations.ReachableStatesMeetTheInvariant :=
  fun _ inputs _ _ admissible runs => run_keeps stepKeepsTheInvariant (.resetWith admissible inputs) runs

end Sys2Proof.Machine
end

section
/-!
PROOF. What every effect of a command leaves alone (10_state.md R20, R24, R38) and what it adds to the trace (R32), and with it what
every step does.
-/

namespace Sys2Proof.Machine

variable {s t : State} {i : Instr}

/-! ### Parameters, inputs and lines -/

/-- R33, R38: no command writes a parameter, an input or a line. -/
theorem Effect.keeps_outside (e : Effect i s t) :
    t.cfg = s.cfg ∧ t.inputs = s.inputs ∧ t.hwReady = s.hwReady ∧ t.lowPower = s.lowPower := by
  cases e with
  | tickLowRate _ _ => simp [sent, scheduleLowRate_eq]
  | tickJitter _ _ _ => simp [sent, scheduleJitter_eq]
  | faults _ _ | transmitIdle _ | tickIdle _ | init _ _ | enable _ _ | disable | startRepeating | stopRepeating
  | updateData _ _ _ _ | transmitOnce _ _ _ => exact ⟨rfl, rfl, rfl, rfl⟩

/-- Settles O5: a command keeps the parameters, and so does every move of another agent, reset included. -/
theorem noStepChangesTheConfiguration : Obligations.NoStepChangesTheConfiguration := by
  intro s t stepped
  cases step_move stepped with
  | runs _ _ _ _ _ _ _ _ eq => exact (exec_effect eq).2.keeps_outside.1
  | reset _ _ eq | idle _ _ eq | completesLast _ _ eq | completes _ _ _ eq | notEnabled _ _ _ eq
  | frees _ _ _ _ _ eq | rejects _ _ _ _ _ _ _ eq => subst eq; rfl

/-- Settles O38: by the effects of the command, each of which writes registers of its own row only. -/
theorem registersAreWrittenByTheirOwners : Obligations.RegistersAreWrittenByTheirOwners := by
  intro i s t next
  obtain ⟨-, e⟩ := exec_effect next
  cases e with
  | faults _ _ | transmitIdle _ | tickIdle _ => simp
  | init _ _ | enable _ _ | disable | startRepeating | stopRepeating | updateData _ _ _ _ => simp [Instr.opcode]
  | transmitOnce _ _ _ => simp [Instr.opcode, sent]
  | tickLowRate _ _ => simp [Instr.opcode, sent, scheduleLowRate_eq]
  | tickJitter _ _ _ => simp [Instr.opcode, sent, scheduleJitter_eq]

/-! ### The trace -/

theorem newEvents_of_append {es : List TraceEvent} (grown : t.trace = s.trace ++ es) : newEvents s t = es := by
  simp [newEvents, grown]

/-- The trace goes on by `n` events at most (R32). -/
def GrowsBy (n : Nat) (s t : State) : Prop := ∃ es, t.trace = s.trace ++ es ∧ es.length ≤ n

theorem growsBy_of_same (n : Nat) (same : t.trace = s.trace) : GrowsBy n s t := ⟨[], by simp [same], Nat.zero_le _⟩

/-- R191: a completion is one event. -/
theorem growsBy_completeTx (s : State) : GrowsBy 3 s (completeTx s) := ⟨[.complete], rfl, by decide⟩

/-- R32, R131, R132, R133, R134, R136: INIT under `WAIT` makes three calls, and no command makes more. -/
theorem Effect.growsBy (e : Effect i s t) : GrowsBy 3 s t := by
  have waits := waitEvents_length_le s.cfg
  cases e with
  | faults _ _ | transmitIdle _ | tickIdle _ | startRepeating | stopRepeating => exact growsBy_of_same 3 rfl
  | @init v id _ _ _ =>
    exact ⟨waitEvents s.cfg ++ [.callInitialize v] ++ [.callLoadBuffer (encodeBytes s.cfg v id)], by simp, by simp; omega⟩
  | @enable v _ _ _ => exact ⟨[.callEnableDma v], rfl, by simp⟩
  | disable => exact ⟨[.callDisable], rfl, by simp⟩
  | @updateData v id _ _ _ _ _ =>
    exact ⟨waitEvents s.cfg ++ [.callLoadBuffer (encodeBytes s.cfg v id)], by simp, by simp; omega⟩
  | @transmitOnce v _ _ _ _ => exact ⟨[.callTransmit v s.pulseBuf], rfl, by simp⟩
  | @tickLowRate v _ _ _ _ => exact ⟨[.callTransmit v s.pulseBuf], by simp [sent, scheduleLowRate_eq], by simp⟩
  | @tickJitter v _ _ _ _ _ _ => exact ⟨[.callTransmit v s.pulseBuf], rfl, by simp⟩

/-- Settles O39: by the move the step was; only a reset does not extend the trace. -/
theorem traceOnlyGrows : Obligations.TraceOnlyGrows := by
  intro s t stepped noReset
  have grows : GrowsBy 3 s t := by
    cases step_move stepped with
    | reset rest head _ => exact absurd head (noReset rest)
    | idle _ _ eq | notEnabled _ _ _ eq | rejects _ _ _ _ _ _ _ eq => exact growsBy_of_same 3 (eq ▸ rfl)
    | completesLast _ _ eq | frees _ _ _ _ _ eq => exact eq ▸ growsBy_completeTx s
    | completes rest _ _ eq => exact eq ▸ growsBy_completeTx (s.dropInput rest)
    | runs _ d rest _ _ _ _ _ eq => exact (exec_effect eq).2.growsBy
  obtain ⟨es, grown, short⟩ := grows
  rw [newEvents_of_append grown]
  exact ⟨grown, short⟩

/-! ### SETUP_DONE -/

theorem mayRaise_ne_none {c : Cause} (raised : c ∈ mayRaise i) : c ≠ .none := by
  rintro rfl
  cases i <;> simp [mayRaise] at raised

/-- R24: no command clears `SETUP_DONE`. -/
theorem Effect.keeps_setupDone (e : Effect i s t) (setUp : s.setupDone = true) : t.setupDone = true := by
  cases e with
  | init _ _ => rfl
  | tickLowRate _ _ => simpa [sent, scheduleLowRate_eq] using setUp
  | faults _ _ | transmitIdle _ | tickIdle _ | enable _ _ | disable | startRepeating | stopRepeating
  | updateData _ _ _ _ | transmitOnce _ _ _ | tickJitter _ _ _ => exact setUp

/-- Settles O40: INIT sets it unless it faults, no command clears it, and the other agents but reset leave it alone. -/
theorem setUpLastsUntilReset : Obligations.SetUpLastsUntilReset := by
  refine ⟨rfl, fun v id s t next completed => ?_, fun s t stepped setUp noReset => ?_⟩
  · obtain ⟨-, e⟩ := exec_effect next
    cases e with
    | faults c raised => exact absurd completed (Cause.code_ne_zero (mayRaise_ne_none raised))
    | init _ _ => rfl
  · cases step_move stepped with
    | reset rest head _ => exact absurd head (noReset rest)
    | runs _ d rest _ _ _ _ _ eq => exact (exec_effect eq).2.keeps_setupDone setUp
    | idle _ _ eq | completesLast _ _ eq | completes _ _ _ eq | notEnabled _ _ _ eq | frees _ _ _ _ _ eq
    | rejects _ _ _ _ _ _ _ eq => exact eq ▸ setUp

end Sys2Proof.Machine
end

section
/-!
PROOF. What a command's outcome does not depend on (10_state.md R25, R29, R33): two runs of a command are followed side by side, check
by check, from states that differ in what is not read.
-/

namespace Sys2Proof.Machine

variable {s s' t : State} {o o' body body' : Host.Outcome State Fault Refusal} {R : State → State → Prop}

/-! ### Two outcomes side by side -/

/-- Two outcomes agree up to `R`: next states that `R` relates, or one and the same stop. -/
inductive Agree (R : State → State → Prop) :
    Host.Outcome State Fault Refusal → Host.Outcome State Fault Refusal → Prop where
  | next {s' s : State} (related : R s' s) : Agree R (.next s') (.next s)
  | fault (r : Fault) : Agree R (.fault r) (.fault r)

theorem Agree.raiseFault (c : Cause) (related : R (s'.recordFault c) (s.recordFault c)) :
    Agree R (raiseFault c s') (raiseFault c s) := .next related

theorem Agree.whenRunning (cause : s'.faultCause = s.faultCause) (bodies : s.faultCause = 0 → Agree R body' body) :
    Agree R (whenRunning s' body') (whenRunning s body) := by
  by_cases running : s.faultCause = 0
  · rw [whenRunning_of_running running, whenRunning_of_running (cause.trans running)]
    exact bodies running
  · rw [whenRunning_of_halted running, whenRunning_of_halted (cause ▸ running)]
    exact .fault _

theorem Agree.whenNotHeld (held : s'.holdsBuffer = s.holdsBuffer) (bodies : Agree R body' body) :
    Agree R (whenNotHeld s' body') (whenNotHeld s body) := by
  unfold Machine.whenNotHeld
  rw [held]
  split
  · exact .fault _
  · exact bodies

/-- A check that reads the same in both runs. -/
theorem Agree.check {b b' : Bool} (same : b' = b) (yes : b = true → Agree R o' o) (no : b = false → Agree R body' body) :
    Agree R (if b' then o' else body') (if b then o else body) := by
  subst same
  cases b'
  · exact no rfl
  · exact yes rfl

/-- INIT checks the fault, the parameters and whether the transport is busy (R131). -/
theorem Agree.execInit {v : Variant} {id : List Byte} (cause : s'.faultCause = s.faultCause) (params : s'.cfg = s.cfg)
    (busy : s'.txBusy = s.txBusy) (faults : ∀ c, R (s'.recordFault c) (s.recordFault c))
    (done : ∀ buf, R
      ((((s'.waitForComplete.setInitialised false).emit (.callInitialize v)).setUpFor v).loadBuffer buf)
      ((((s.waitForComplete.setInitialised false).emit (.callInitialize v)).setUpFor v).loadBuffer buf)) :
    Agree R (execInit v id s') (execInit v id s) := by
  refine .whenRunning cause fun _ => .whenNotHeld (by simp [State.holdsBuffer, params, busy]) ?_
  rw [params]
  cases encodeId s.cfg id v with
  | error c => exact .raiseFault c (faults c)
  | ok buf => exact .check (by rw [busy]) (fun _ => .raiseFault _ (faults _)) fun _ => .next (done buf)

/-- UPDATE_DATA checks the same, then `SETUP_DONE`, and only after INIT the variant (R136). -/
theorem Agree.execUpdateData {v : Variant} {id : List Byte} (cause : s'.faultCause = s.faultCause) (params : s'.cfg = s.cfg)
    (busy : s'.txBusy = s.txBusy) (setUp : s'.setupDone = s.setupDone)
    (names : s.setupDone = true → s'.namesActive v = s.namesActive v) (faults : ∀ c, R (s'.recordFault c) (s.recordFault c))
    (done : s.setupDone = true → ∀ buf, R (s'.waitForComplete.loadBuffer buf) (s.waitForComplete.loadBuffer buf)) :
    Agree R (execUpdateData v id s') (execUpdateData v id s) := by
  refine .whenRunning cause fun _ => .whenNotHeld (by simp [State.holdsBuffer, params, busy]) ?_
  rw [params]
  cases encodeId s.cfg id v with
  | error c => exact .raiseFault c (faults c)
  | ok buf =>
    refine .check (by rw [setUp]) (fun _ => .raiseFault _ (faults _)) fun isSetUp => ?_
    have isSetUp : s.setupDone = true := by simpa using isSetUp
    refine .check (by rw [names isSetUp]) (fun _ => .raiseFault _ (faults _)) fun _ => ?_
    exact .check (by rw [busy]) (fun _ => .raiseFault _ (faults _)) fun _ => .next (done isSetUp buf)

theorem Agree.onNext_eq {f g : State → State} (agree : Agree (fun t' t => f t' = g t) o' o) : onNext f o' = onNext g o := by
  cases agree with
  | next related => exact congrArg Host.Outcome.next related
  | fault r => rfl

/-! ### Before INIT -/

/-- The two registers that hold no value before INIT, at other values (R25, R29). -/
def State.withSetUp (a : Byte) (buf : List Nat) (s : State) : State := { s with activeVariant := a, pulseBuf := buf }

/-- Equal but for `ACTIVE_VARIANT` and `PULSE_BUF`. -/
def SameButSetUp (s' s : State) : Prop := s'.withSetUp 0 [] = s.withSetUp 0 []

/-- R25, R29: every check that reads one of the two registers stands behind a check that `SETUP_DONE` or a gate fails. -/
theorem exec_withSetUp (i : Instr) (a : Byte) (buf : List Nat) (notSetUp : s.setupDone = false)
    (closed : s.initialised = false) : Agree SameButSetUp (exec i (s.withSetUp a buf)) (exec i s) := by
  cases i with
  | init v id =>
    refine .execInit rfl rfl rfl (fun _ => rfl) fun _ => ?_
    rw [waitForComplete_eq, waitForComplete_eq]
    rfl
  | enable =>
    exact .whenRunning rfl fun _ => .check rfl (fun _ => .raiseFault _ rfl) fun setUp => by simp [notSetUp] at setUp
  | disable | startRepeating | stopRepeating => exact .whenRunning rfl fun _ => .next rfl
  | updateData v id =>
    exact .execUpdateData rfl rfl rfl rfl (fun setUp => by simp [notSetUp] at setUp) (fun _ => rfl)
      fun setUp => by simp [notSetUp] at setUp
  | transmitOnce v =>
    exact .whenRunning rfl fun _ => .check rfl (fun _ => .next rfl) fun opened => by simp [closed] at opened
  | tick v now =>
    exact .whenRunning rfl fun _ => .check rfl (fun _ => .next rfl) fun opened => by simp [State.gatesOpen, closed] at opened

/-- Settles O41: the two runs agree but for the two registers, which the statement sets to one value. -/
theorem variantAndBufferAreUnreadBeforeInit : Obligations.VariantAndBufferAreUnreadBeforeInit :=
  fun i _ a buf notSetUp closed => (exec_withSetUp i a buf notSetUp closed).onNext_eq

/-! ### The lines -/

/-- The command comes past its gates to its readiness poll (R138, R161). -/
def polls (s : State) : Instr → Bool
  | .transmitOnce _ => s.initialised
  | .tick _ _ => s.gatesOpen
  | .init _ _ | .enable | .disable | .startRepeating | .stopRepeating | .updateData _ _ => false

theorem setUpVariant_present (d : Draws) (rest : List Input) (s : State) :
    (s.present d rest).setUpVariant = s.setUpVariant := rfl

/-- R33: a command answers under other lines and inputs as it does under its own, if a poll it makes reads the same and a tick that
fires sees the same low-power line. -/
theorem exec_present {i : Instr} {d : Draws} {rest : List Input}
    (poll : polls s i = true → (s.present d rest).pollReady = s.pollReady)
    (power : ∀ v now, i = .tick v now → tickFires v now s = true → d.lowPower = s.lowPower) :
    Agree (fun t' t => t' = t.present d rest) (exec i (s.present d rest)) (exec i s) := by
  cases i with
  | init v id =>
    refine .execInit rfl rfl rfl (fun _ => rfl) fun _ => ?_
    rw [waitForComplete_eq, waitForComplete_eq]
    rfl
  | enable =>
    refine .whenRunning rfl fun _ => .check rfl (fun _ => .raiseFault _ rfl) fun _ => ?_
    rw [setUpVariant_present]
    cases s.setUpVariant with
    | none => exact .fault _
    | some v => exact .next rfl
  | disable | startRepeating | stopRepeating => exact .whenRunning rfl fun _ => .next rfl
  | updateData v id =>
    refine .execUpdateData rfl rfl rfl rfl (fun _ => rfl) (fun _ => rfl) fun _ _ => ?_
    rw [waitForComplete_eq, waitForComplete_eq]
    rfl
  | transmitOnce v =>
    refine .whenRunning rfl fun _ => .check rfl (fun _ => .next rfl) fun opened => ?_
    refine .check (by rw [poll (by simpa [polls] using opened)]) (fun _ => .next rfl) fun _ => ?_
    exact .check rfl (fun _ => .raiseFault _ rfl) fun _ => .next rfl
  | tick v now =>
    refine .whenRunning rfl fun running => .check rfl (fun _ => .next rfl) fun opened => ?_
    refine .check (by rw [poll (by simpa [polls] using opened)]) (fun _ => .next rfl) fun ready => ?_
    refine .check rfl (fun _ => .next rfl) fun due => .check rfl (fun _ => .raiseFault _ rfl) fun active => ?_
    obtain ⟨enabled, repeats⟩ : s.initialised = true ∧ s.repeating = true := by simpa [State.gatesOpen] using opened
    have fires : tickFires v now s = true := tickFires_iff.2
      ⟨running, enabled, repeats, by simpa using ready, by simpa using due, namesActive_iff.1 (by simpa using active)⟩
    refine .check (power v now rfl fires) (fun _ => .next ?_) fun _ => ?_
    · rw [scheduleLowRate_eq, scheduleLowRate_eq]
      rfl
    · rw [State.present_jitterIndex]
      cases jitterAt s.jitterIndex with
      | none => exact .fault _
      | some j => exact .next rfl

/-- Restoring the lines a command ran under other than its own (R33): no command writes a line or an input. -/
theorem onNext_eq_exec {i : Instr} {d : Draws} {f : State → State}
    (agree : Agree (fun t' t => t' = t.present d s.inputs) o' (exec i s))
    (restores : ∀ t, t.hwReady = s.hwReady → t.lowPower = s.lowPower → t.inputs = s.inputs → f (t.present d s.inputs) = t) :
    onNext f o' = exec i s := by
  generalize result : exec i s = o at agree
  cases agree with
  | next related =>
    obtain ⟨-, inputs, ready, power⟩ := (exec_effect result).2.keeps_outside
    rw [related, onNext, restores _ ready power inputs]
  | fault r => rfl

/-- A poll that no hardware line can change: behind a closed gate, or during a transmission (R33, R194). -/
theorem pollReady_present_of_unread {i : Instr} {d : Draws} {rest : List Input}
    (unread : s.initialised = false ∨ s.txBusy = true ∨ (i.opcode = .tick ∧ s.repeating = false) ∨
      (i.opcode ≠ .tick ∧ i.opcode ≠ .transmitOnce)) (polled : polls s i = true) :
    (s.present d rest).pollReady = s.pollReady := by
  rcases unread with closed | busy | ⟨tick, quiet⟩ | ⟨notTick, notTransmit⟩
  · cases i <;> simp [polls, State.gatesOpen, closed] at polled
  · simp [State.pollReady, busy]
  · cases i <;> simp [polls, State.gatesOpen, quiet, Instr.opcode] at polled tick
  · cases i <;> simp [polls, Instr.opcode] at polled notTick notTransmit

/-- Settles O52: the command is run under the other line, and the line put back. -/
theorem drawsShowOnlyWhereTheyArePolled : Obligations.DrawsShowOnlyWhereTheyArePolled := by
  intro i s b
  refine ⟨fun idle => ?_, fun unread => ?_⟩
  · have agree : Agree _ (exec i (s.present ⟨s.hwReady, b⟩ s.inputs)) (exec i s) :=
      exec_present (fun _ => rfl) fun v now isTick fires => by simp [idle v now isTick] at fires
    refine onNext_eq_exec agree fun t ready power inputs => ?_
    rw [← power]
    simp [State.present, ← ready, ← inputs]
  · have agree : Agree _ (exec i (s.present ⟨b, s.lowPower⟩ s.inputs)) (exec i s) :=
      exec_present (pollReady_present_of_unread unread) fun _ _ _ _ => rfl
    refine onNext_eq_exec agree fun t ready power inputs => ?_
    simp [State.present, ← power, ← inputs, ← ready]

end Sys2Proof.Machine
end

section
/-!
PROOF. What a step does to the transmission in flight: no step changes its buffer or its variant, and one starts only from an idle
transport, with the buffer as it stands (20_memory.md R59, 43_transport.md R190, 70_reset_and_hazards.md R240).
-/

namespace Sys2Proof.Machine

variable {s t : State} {i : Instr}

/-- If a transmission is in flight in `t`, it is the one of `s` with its buffer and variant, or one that `t` has just requested. -/
def KeepsFlight (s t : State) : Prop :=
  t.txBusy = true →
    (s.txBusy = true → t.replayed = s.replayed ∧ t.txVariant = s.txVariant) ∧
    (s.txBusy = false →
      t.replayed = s.pulseBuf ∧ ∃ v, t.txVariant = some v ∧ t.trace = s.trace ++ [.callTransmit v s.pulseBuf])

theorem keepsFlight_of_idle (landed : t.txBusy = false) : KeepsFlight s t := fun busy => by simp [landed] at busy

/-- An operation that writes neither `TX_BUSY` nor `TX_VARIANT` has only the replayed buffer to keep, and only during a transmission. -/
theorem keepsFlight_of_same (sameBusy : t.txBusy = s.txBusy) (variant : t.txVariant = s.txVariant)
    (buffer : s.txBusy = true → t.replayed = s.replayed) : KeepsFlight s t := by
  intro busy
  rw [sameBusy] at busy
  exact ⟨fun _ => ⟨buffer busy, variant⟩, fun idle => by simp [busy] at idle⟩

/-- R133, R190: a request on an idle transport sends the buffer as it stands; a schedule set in the same step leaves buffer and trace
alone. -/
theorem keepsFlight_sent {u : State} (v : Variant) (idle : s.txBusy = false) (buffer : u.pulseBuf = s.pulseBuf)
    (events : u.trace = s.trace) : KeepsFlight s (sent v u) :=
  fun _ => ⟨fun busy => by simp [idle] at busy,
    fun _ => ⟨(replayed_sent v u).trans buffer, v, rfl, by simp [sent, buffer, events]⟩⟩

/-- R59, R240: INIT writes `PULSE_BUF` on an idle transport only, UPDATE_DATA during a transmission only under `DOUBLE_BUFFER`, where
the snapshot is replayed. -/
theorem Effect.keepsFlight (e : Effect i s t) : KeepsFlight s t := by
  cases e with
  | faults _ _ | transmitIdle _ | tickIdle _ | enable _ _ | disable | startRepeating | stopRepeating =>
    exact keepsFlight_of_same rfl rfl fun _ => rfl
  | init _ idle => exact keepsFlight_of_idle idle
  | updateData _ _ _ free =>
    refine keepsFlight_of_same rfl rfl fun busy => ?_
    have policy : s.cfg.updatePolicy = .doubleBuffer := free.resolve_left (by simp [busy])
    rw [State.replayed_of_doubleBuffer policy]
    exact State.replayed_of_doubleBuffer policy
  | transmitOnce _ ready _ => exact keepsFlight_sent _ (pollReady_idle ready) rfl rfl
  | tickLowRate fires _ =>
    rw [scheduleLowRate_eq]
    exact keepsFlight_sent _ (pollReady_idle (tickFires_ready fires)) rfl rfl
  | tickJitter fires _ _ => exact keepsFlight_sent _ (pollReady_idle (tickFires_ready fires)) rfl rfl

/-- Settles O53: by the move the step was, from any state, so the invariant is not used. Reset and completion leave the transport idle,
the other agents leave the flight alone, and a command does what its effect does. -/
theorem bufferInFlightNeverChanges : Obligations.BufferInFlightNeverChanges := by
  intro s t _ stepped
  change KeepsFlight s t
  cases step_move stepped with
  | reset _ _ eq | completesLast _ _ eq | completes _ _ _ eq | frees _ _ _ _ _ eq =>
    subst eq
    exact keepsFlight_of_idle rfl
  | idle _ _ eq | notEnabled _ _ _ eq | rejects _ _ _ _ _ _ _ eq =>
    subst eq
    exact keepsFlight_of_same rfl rfl fun _ => rfl
  | runs _ d rest _ _ _ _ _ eq =>
    have kept : KeepsFlight (s.present d rest) t := (exec_effect eq).2.keepsFlight
    exact kept

end Sys2Proof.Machine
end

section
/-!
PROOF. The decoder's outcomes, said once (30_encoding.md R76): a frame decodes to `r` exactly in the cases of `Decoding c f r`, and what
they say of reserved opcodes and selectors (R73, R77).
-/

namespace Sys2Proof

open Machine

variable {c : Config} {f g : Frame} {o : Opcode} {v : Variant} {r : Except Cause Instr}

/-! ### What a frame selects -/

/-- The byte indices a command uses: `OP`, for a command that uses it `VAR`, and the operand bytes (R75, R76). -/
def Opcode.usedBytes (o : Opcode) (v : Variant) : List Nat := if o.usesVar then 0 :: 1 :: o.operandBytes v else [0]

/-- The opcode and the variant a frame names; the variant the decoder passes on is `STD` for a command without `VAR`. -/
inductive Frame.Selects (c : Config) (f : Frame) : Opcode → Variant → Prop where
  | withVar {o : Opcode} {v : Variant} (op : f.op = o.code) (uses : o.usesVar = true) (var : c.variantOf f.var = some v) :
      Selects c f o v
  | plain {o : Opcode} (op : f.op = o.code) (unused : o.usesVar = false) : Selects c f o .std

theorem Frame.Selects.congr (selects : g.Selects c o v) (op : f.op = g.op) (var : o.usesVar = true → f.var = g.var) :
    f.Selects c o v := by
  cases selects with
  | withVar gOp uses gVar => exact .withVar (op.trans gOp) uses (var uses ▸ gVar)
  | plain gOp unused => exact .plain (op.trans gOp) unused

theorem decode_of_selects (selects : f.Selects c o v) : decode c f = decodeFields o v (o.usedBytes v) f := by
  cases selects with
  | withVar op uses var => simp [decode, op, Opcode.ofByte_code, uses, var, Opcode.usedBytes]
  | plain op unused => simp [decode, op, Opcode.ofByte_code, unused, Opcode.usedBytes]

/-! ### The outcomes of the decoder -/

/-- What the decoder answers: the fault of the first check that fails, or the command (R76). -/
inductive Decoding (c : Config) (f : Frame) : Except Cause Instr → Prop where
  | reservedCommand (unknown : Opcode.ofByte f.op = none) : Decoding c f (.error .reservedCommand)
  | badVariant {o : Opcode} (op : f.op = o.code) (uses : o.usesVar = true) (unknown : c.variantOf f.var = none) :
      Decoding c f (.error .badVariant)
  | reservedField {o : Opcode} {v : Variant} (selects : f.Selects c o v) (dirty : f.reservedClear (o.usedBytes v) = false) :
      Decoding c f (.error .reservedField)
  | accepts {o : Opcode} {v : Variant} (selects : f.Selects c o v) (clear : f.reservedClear (o.usedBytes v) = true) :
      Decoding c f (.ok (o.command v f))

theorem Decoding.decode_eq (d : Decoding c f r) : decode c f = r := by
  cases d with
  | reservedCommand unknown => simp [decode, unknown]
  | badVariant op uses unknown => simp [decode, op, Opcode.ofByte_code, uses, unknown]
  | reservedField selects dirty => simp [decode_of_selects selects, decodeFields, dirty]
  | accepts selects clear => simp [decode_of_selects selects, decodeFields, clear]

theorem Frame.Selects.exists_decoding (selects : f.Selects c o v) : ∃ r, Decoding c f r := by
  cases clear : f.reservedClear (o.usedBytes v) with
  | true => exact ⟨_, .accepts selects clear⟩
  | false => exact ⟨_, .reservedField selects clear⟩

/-- The cases are exhaustive: the checks of R76 in their order. -/
theorem exists_decoding (c : Config) (f : Frame) : ∃ r, Decoding c f r := by
  cases known : Opcode.ofByte f.op with
  | none => exact ⟨_, .reservedCommand known⟩
  | some o =>
    have op : f.op = o.code := Opcode.code_of_ofByte known
    cases uses : o.usesVar with
    | false => exact (Frame.Selects.plain op uses).exists_decoding
    | true =>
      cases var : c.variantOf f.var with
      | none => exact ⟨_, .badVariant op uses var⟩
      | some v => exact (Frame.Selects.withVar op uses var).exists_decoding

/-- R76. -/
theorem decode_eq_iff : decode c f = r ↔ Decoding c f r := by
  refine ⟨fun decoded => ?_, Decoding.decode_eq⟩
  obtain ⟨r', d⟩ := exists_decoding c f
  rwa [← decoded, d.decode_eq]

/-- R201: the decoder raises the causes 1, 2 and 3 only. -/
theorem decode_error_code {cause : Cause} (fails : decode c f = .error cause) :
    cause.code = 1 ∨ cause.code = 2 ∨ cause.code = 3 := by
  cases decode_eq_iff.1 fails with
  | reservedCommand _ => exact .inl rfl
  | badVariant _ _ _ => exact .inr (.inl rfl)
  | reservedField _ _ => exact .inr (.inr rfl)

/-! ### Reserved opcodes and selectors -/

/-- Settles O9: the fault is the decoder's only outcome without an opcode, and the bytes without one are known. -/
theorem reservedOpcodesFault : Obligations.ReservedOpcodesFault := by
  intro c f
  rw [decode_eq_iff, ← Opcode.ofByte_eq_none_iff]
  refine ⟨fun d => ?_, .reservedCommand⟩
  cases d with
  | reservedCommand unknown => exact unknown

theorem variantOf_eq_none_iff {b : Byte} : c.variantOf b = none ↔ b ≠ c.codeStd ∧ b ≠ c.codeAlt := by
  rw [Config.variantOf]
  split
  · next isStd => simp [isStd]
  · next notStd =>
    split
    · next isAlt => simp [isAlt]
    · next notAlt => simp [notStd, notAlt]

/-- R71, R76: the opcodes of the commands that use `VAR`. -/
theorem exists_usesVar_iff (b : Byte) :
    (∃ o : Opcode, b = o.code ∧ o.usesVar = true) ↔ b = 0x01 ∨ b = 0x06 ∨ b = 0x07 ∨ b = 0x08 := by
  constructor
  · rintro ⟨o, rfl, uses⟩
    cases o <;> simp_all [Opcode.code, Opcode.usesVar]
  · rintro (rfl | rfl | rfl | rfl)
    · exact ⟨.init, rfl, rfl⟩
    · exact ⟨.updateData, rfl, rfl⟩
    · exact ⟨.transmitOnce, rfl, rfl⟩
    · exact ⟨.tick, rfl, rfl⟩

/-- R73, R76: a selector faults exactly if the command uses it and it is no variant's code. -/
theorem decode_badVariant_iff : decode c f = .error .badVariant ↔
    (∃ o : Opcode, f.op = o.code ∧ o.usesVar = true) ∧ c.variantOf f.var = none := by
  rw [decode_eq_iff]
  refine ⟨fun d => ?_, fun ⟨⟨_, op, uses⟩, unknown⟩ => .badVariant op uses unknown⟩
  cases d with
  | badVariant op uses unknown => exact ⟨⟨_, op, uses⟩, unknown⟩

/-- Settles O10: two different codes are told apart, the default ones are 0 and 1, and the fault is the decoder's outcome for a selector
that is neither. -/
theorem reservedSelectorsFault : Obligations.ReservedSelectorsFault := by
  refine ⟨fun c admissible v => variantOf_codeOf admissible v, variantOf_codeOf default_wf .std,
    variantOf_codeOf default_wf .alt, fun b large => ?_, fun c f => ?_⟩
  · refine variantOf_eq_none_iff.2 ⟨?_, ?_⟩ <;> rintro rfl <;> simp [Config.default] at large
  · rw [decode_badVariant_iff, exists_usesVar_iff, variantOf_eq_none_iff]

end Sys2Proof
end

section
/-!
PROOF. Frames byte by byte (30_encoding.md R70 to R75): the bytes of an encoded command that it uses, and the zeros in all others.
-/

namespace Sys2Proof

open Machine

variable {c : Config} {f g : Frame} {o : Opcode} {v : Variant} {i : Instr} {k : Nat}

/-! ### The bytes of a frame -/

theorem Frame.ofBytes_toBytes (f : Frame) : Frame.ofBytes f.toBytes = some f := rfl

/-- A frame is its 16 bytes (R70). -/
theorem Frame.eq_of_byte_eq (same : ∀ k, k < 16 → f.byte k = g.byte k) : f = g := by
  have bytes : f.toBytes = g.toBytes := List.ext_getElem rfl fun k inF inG => by
    have byteEq := same k inF
    rwa [Frame.byte, Frame.byte, List.getD_eq_getElem _ _ inF, List.getD_eq_getElem _ _ inG] at byteEq
  exact Option.some.inj (congrArg Frame.ofBytes bytes)

/-- R70: identifier byte `j` stands in `f[j + 2]`. -/
theorem Frame.byte_add_two (f : Frame) {j : Nat} (inField : j < 9) : f.byte (j + 2) = f.idField.getD j 0 := by
  have fields : f.toBytes = [f.op, f.var] ++ (f.idField ++ [f.rsv, f.now0, f.now1, f.now2, f.now3]) := rfl
  have inList : j < f.idField.length := inField
  rw [Frame.byte, fields, List.getD_append_right _ _ _ _ (by simp), ← List.getD_append f.idField _ 0 j inList]
  rfl

theorem idFits_iff {id : List Byte} : idFits v id = true ↔ id.length = v.dataLen := beq_iff_eq

theorem Variant.dataLen_le_nine (v : Variant) : v.dataLen ≤ 9 := by cases v <;> decide

theorem Frame.identifier_length (f : Frame) (v : Variant) : (f.identifier v).length = v.dataLen := by
  simpa [Frame.identifier, Frame.idField] using v.dataLen_le_nine

/-- R74: the identifier operand is read from `f[2]` on. -/
theorem Frame.identifier_getD (f : Frame) {j : Nat} (inId : j < v.dataLen) : (f.identifier v).getD j 0 = f.byte (j + 2) := by
  rw [f.byte_add_two (Nat.lt_of_lt_of_le inId v.dataLen_le_nine)]
  simp [Frame.identifier, List.getD_eq_getElem?_getD, inId]

/-- R70, R75: identifier byte `j` of a frame, 0 where the identifier is shorter. -/
theorem Frame.make_byte_add_two (op var : Byte) (id : List Byte) (now : Time) {j : Nat} (inField : j < 9) :
    (Frame.make op var id now).byte (j + 2) = id.getD j 0 := by
  have field : (Frame.make op var id now).idField = (List.range 9).map (fun j => id.getD j 0) := rfl
  rw [Frame.byte_add_two _ inField, field, List.getD_eq_getElem _ _ (by simpa using inField)]
  simp

/-- R75: past its identifier, and outside a timestamp, a frame is 0. -/
theorem Frame.make_byte_eq_zero (op var : Byte) {id : List Byte} {now : Time} (inFrame : k < 16) (pastId : id.length + 2 ≤ k)
    (noTimestamp : k < 12 ∨ now = 0) : (Frame.make op var id now).byte k = 0 := by
  obtain ⟨j, rfl⟩ : ∃ j, k = j + 2 := ⟨k - 2, by omega⟩
  by_cases inField : j < 9
  · rw [Frame.make_byte_add_two _ _ _ _ inField, List.getD_eq_default _ _ (by omega)]
  · obtain rfl | rfl | rfl | rfl | rfl : j = 9 ∨ j = 10 ∨ j = 11 ∨ j = 12 ∨ j = 13 := by omega
    · rfl
    all_goals
      obtain rfl : now = 0 := noTimestamp.resolve_left (by omega)
      rfl

/-- R74: the identifier of a frame is the one it was made from. -/
theorem Frame.identifier_make (op var : Byte) {id : List Byte} (now : Time) (fits : id.length = v.dataLen) :
    (Frame.make op var id now).identifier v = id := by
  refine List.ext_getElem ((Frame.identifier_length _ v).trans fits.symm) fun j inMade inId => ?_
  have inField : j < 9 := by have := v.dataLen_le_nine; omega
  rw [← List.getD_eq_getElem _ 0 inMade, ← List.getD_eq_getElem _ 0 inId, Frame.identifier_getD _ (fits ▸ inId),
    Frame.make_byte_add_two _ _ _ _ inField]

/-- R72: the timestamp of a frame is the one it was made from. -/
theorem Frame.nowField_make (op var : Byte) (id : List Byte) (now : Time) : (Frame.make op var id now).nowField = now :=
  BitVec.eq_of_toNat_eq ((Frame.nowField_toNat _).trans (timestamp_of_bytes now))

/-- R72: the four bytes of a timestamp are those it was read from. -/
theorem Frame.byteOf_nowField (f : Frame) : byteOf f.nowField.toNat 0 = f.now0 ∧ byteOf f.nowField.toNat 1 = f.now1 ∧
    byteOf f.nowField.toNat 2 = f.now2 ∧ byteOf f.nowField.toNat 3 = f.now3 := by
  have h0 := f.now0.isLt
  have h1 := f.now1.isLt
  have h2 := f.now2.isLt
  have h3 := f.now3.isLt
  refine ⟨?_, ?_, ?_, ?_⟩ <;> refine BitVec.eq_of_toNat_eq ?_ <;> rw [byteOf_toNat, Frame.nowField_toNat] <;> omega

/-! ### The bytes a command uses -/

/-- The variant operand of a command; `STD`, as the decoder passes it on, for a command without one. -/
def Instr.variant : Instr → Variant
  | .init v _ | .updateData v _ | .transmitOnce v | .tick v _ => v
  | .enable | .disable | .startRepeating | .stopRepeating => .std

theorem mem_identifierBytes_iff {n : Nat} : k ∈ (List.range n).map (· + 2) ↔ 2 ≤ k ∧ k < n + 2 := by
  simp only [List.mem_map, List.mem_range]
  exact ⟨fun ⟨j, inId, eq⟩ => by omega, fun ⟨low, high⟩ => ⟨k - 2, by omega, by omega⟩⟩

/-- The statements' used bytes (R71, R75) are the ones the decoder's check leaves out (R76). -/
theorem usesByte_eq_true_iff (inFrame : k < 16) : usesByte i k = true ↔ k ∈ i.opcode.usedBytes i.variant := by
  cases i with
  | init v _ | updateData v _ =>
    simp only [usesByte, decide_eq_true_eq, Instr.opcode, Instr.variant, Opcode.usedBytes, Opcode.usesVar, if_true,
      Opcode.operandBytes, List.mem_cons, mem_identifierBytes_iff]
    omega
  | transmitOnce _ | tick _ _ =>
    simp only [usesByte, Bool.or_eq_true, decide_eq_true_eq, Instr.opcode, Opcode.usedBytes, Opcode.usesVar, if_true,
      Opcode.operandBytes, List.mem_cons, List.not_mem_nil, or_false]
    omega
  | enable | disable | startRepeating | stopRepeating =>
    simp [usesByte, Instr.opcode, Opcode.usedBytes, Opcode.usesVar]

theorem reservedClear_usedBytes_iff : f.reservedClear (i.opcode.usedBytes i.variant) = true ↔
    ∀ k, k < 16 → usesByte i k = false → f.byte k = 0 := by
  rw [Frame.reservedClear_iff]
  refine forall_congr' fun k => imp_congr_right fun inFrame => ?_
  rw [← usesByte_eq_true_iff inFrame, Bool.not_eq_true]

/-! ### The command of a frame -/

theorem Opcode.opcode_command (o : Opcode) (v : Variant) (f : Frame) : (o.command v f).opcode = o := by cases o <;> rfl

theorem Frame.Selects.variant_command (selects : f.Selects c o v) : (o.command v f).variant = v := by
  cases selects with
  | withVar _ uses _ => cases o with
    | init | updateData | transmitOnce | tick => rfl
    | enable | disable | startRepeating | stopRepeating => cases uses
  | plain _ _ => cases o <;> rfl

/-- R76: "A frame that decodes cleanly never produces `ID_LENGTH_MISMATCH`". -/
theorem Opcode.wellFormed_command (o : Opcode) (v : Variant) (f : Frame) : (o.command v f).wellFormed = true := by
  cases o with
  | init | updateData => simp [Opcode.command, Instr.wellFormed, idFits, Frame.identifier_length]
  | enable | disable | startRepeating | stopRepeating | transmitOnce | tick => rfl

/-- An accepted frame (R75, R76): it names its command's opcode and variant, its fields are the operands, and all other bytes are 0. -/
theorem decode_eq_ok_iff : decode c f = .ok i ↔ f.Selects c i.opcode i.variant ∧ i.opcode.command i.variant f = i ∧
    ∀ k, k < 16 → usesByte i k = false → f.byte k = 0 := by
  rw [decode_eq_iff, ← reservedClear_usedBytes_iff]
  constructor
  · intro d
    cases d with
    | accepts selects clear =>
      rw [Opcode.opcode_command, selects.variant_command]
      exact ⟨selects, rfl, clear⟩
  · rintro ⟨selects, operands, clear⟩
    exact operands ▸ .accepts selects clear

/-! ### The frame of a command -/

theorem encode_selects (admissible : c.wf) (i : Instr) : (encode c i).Selects c i.opcode i.variant := by
  cases i with
  | init v _ | updateData v _ | transmitOnce v | tick v _ => exact .withVar rfl rfl (variantOf_codeOf admissible v)
  | enable | disable | startRepeating | stopRepeating => exact .plain rfl rfl

/-- R72, R74: the operands of a command are those of its frame. -/
theorem command_encode (fits : i.wellFormed = true) : i.opcode.command i.variant (encode c i) = i := by
  cases i with
  | init v _ => exact congrArg (Instr.init v) (Frame.identifier_make _ _ _ (idFits_iff.1 fits))
  | updateData v _ => exact congrArg (Instr.updateData v) (Frame.identifier_make _ _ _ (idFits_iff.1 fits))
  | tick v now => exact congrArg (Instr.tick v) (Frame.nowField_make _ _ _ now)
  | enable | disable | startRepeating | stopRepeating | transmitOnce _ => rfl

/-- R75: the frame of a well-formed command is 0 outside the bytes the command uses. -/
theorem encode_byte_unused (fits : i.wellFormed = true) (inFrame : k < 16) (unused : usesByte i k = false) :
    (encode c i).byte k = 0 := by
  cases i with
  | init v id | updateData v id =>
    have length : id.length = v.dataLen := idFits_iff.1 fits
    have past : ¬ k ≤ 1 + v.dataLen := by simpa [usesByte] using unused
    exact Frame.make_byte_eq_zero _ _ inFrame (by omega) (.inr rfl)
  | transmitOnce _ =>
    have past : 1 < k := by simpa [usesByte] using unused
    exact Frame.make_byte_eq_zero _ _ inFrame past (.inr rfl)
  | tick _ _ =>
    obtain ⟨past, before⟩ : 1 < k ∧ k < 12 := by simpa [usesByte] using unused
    exact Frame.make_byte_eq_zero _ _ inFrame past (.inl before)
  | enable | disable | startRepeating | stopRepeating =>
    obtain rfl | past : k = 1 ∨ 2 ≤ k := by
      have : k ≠ 0 := by simpa [usesByte] using unused
      omega
    · rfl
    · exact Frame.make_byte_eq_zero _ _ inFrame past (.inr rfl)

/-- R72, R74: the operand bytes of a frame are those of its command's frame. -/
theorem encode_command_operandBytes (operand : k ∈ o.operandBytes v) : (encode c (o.command v f)).byte k = f.byte k := by
  cases o with
  | init | updateData =>
    obtain ⟨low, high⟩ := mem_identifierBytes_iff.1 operand
    obtain ⟨j, rfl⟩ : ∃ j, k = j + 2 := ⟨k - 2, by omega⟩
    have inId : j < v.dataLen := by omega
    exact (Frame.make_byte_add_two _ _ _ _ (Nat.lt_of_lt_of_le inId v.dataLen_le_nine)).trans (f.identifier_getD inId)
  | tick =>
    obtain ⟨b0, b1, b2, b3⟩ := f.byteOf_nowField
    obtain rfl | rfl | rfl | rfl : k = 12 ∨ k = 13 ∨ k = 14 ∨ k = 15 := by simpa [Opcode.operandBytes] using operand
    · exact b0
    · exact b1
    · exact b2
    · exact b3
  | enable | disable | startRepeating | stopRepeating | transmitOnce => simp [Opcode.operandBytes] at operand

theorem encode_op (c : Config) (i : Instr) : (encode c i).op = i.opcode.code := by cases i <;> rfl

theorem encode_var (uses : i.opcode.usesVar = true) : (encode c i).var = c.codeOf i.variant := by
  cases i with
  | init _ _ | updateData _ _ | transmitOnce _ | tick _ _ => rfl
  | enable | disable | startRepeating | stopRepeating => cases uses

/-- R71 to R74: a frame agrees with its command's frame in every byte the command uses. -/
theorem Frame.Selects.encode_command_usedBytes (selects : f.Selects c o v) (used : k ∈ o.usedBytes v) :
    (encode c (o.command v f)).byte k = f.byte k := by
  have op : f.op = o.code := by cases selects <;> assumption
  have opByte : (encode c (o.command v f)).byte 0 = f.byte 0 :=
    (encode_op c _).trans (by rw [Opcode.opcode_command]; exact op.symm)
  cases selects with
  | withVar _ uses var =>
    have varByte : (encode c (o.command v f)).byte 1 = f.byte 1 :=
      (encode_var (by rwa [Opcode.opcode_command])).trans
        (by rw [(Frame.Selects.withVar op uses var).variant_command]; exact (variantOf_eq_some var).symm)
    simp only [Opcode.usedBytes, uses, if_true, List.mem_cons] at used
    obtain rfl | rfl | operand := used
    · exact opByte
    · exact varByte
    · exact encode_command_operandBytes operand
  | plain _ unused =>
    obtain rfl : k = 0 := by simpa [Opcode.usedBytes, unused] using used
    exact opByte

/-- Settles O6: the command's frame names its opcode and variant, holds its operands, and is 0 elsewhere. -/
theorem decodeOfEncodeIsTheCommand : Obligations.DecodeOfEncodeIsTheCommand :=
  fun _ i admissible fits => decode_eq_ok_iff.2
    ⟨encode_selects admissible i, command_encode fits, fun _ inFrame unused => encode_byte_unused fits inFrame unused⟩

/-- Settles O7: the two frames agree in the bytes the command uses, and both are 0 in all others. -/
theorem acceptedFramesAreCanonical : Obligations.AcceptedFramesAreCanonical := by
  intro c f i accepted
  obtain ⟨selects, operands, zeros⟩ := decode_eq_ok_iff.1 accepted
  have fits : i.wellFormed = true := operands ▸ Opcode.wellFormed_command _ _ f
  refine ⟨fits, Frame.eq_of_byte_eq fun k inFrame => ?_⟩
  cases used : usesByte i k with
  | true =>
    have same := selects.encode_command_usedBytes ((usesByte_eq_true_iff inFrame).1 used)
    rwa [operands] at same
  | false => rw [encode_byte_unused fits inFrame used, zeros k inFrame used]

/-! ### Reserved bytes and the timestamp -/

theorem usesByte_zero (i : Instr) : usesByte i 0 = true := by cases i <;> simp [usesByte]

theorem usesByte_one (uses : i.opcode.usesVar = true) : usesByte i 1 = true := by
  rw [usesByte_eq_true_iff (by decide), Opcode.usedBytes, if_pos uses]
  simp

/-- Settles O11: an accepted frame has passed the check; a frame that agrees with a command's frame in the used bytes selects the same
command, so a nonzero byte elsewhere fails it. -/
theorem nonzeroReservedBytesFault : Obligations.NonzeroReservedBytesFault := by
  refine ⟨fun c f i accepted => (decode_eq_ok_iff.1 accepted).2.2, ?_⟩
  intro c f i admissible _ agree ⟨k, inFrame, unused, nonzero⟩
  have selects : f.Selects c i.opcode i.variant := (encode_selects admissible i).congr
    (agree 0 (by decide) (usesByte_zero i)) fun uses => agree 1 (by decide) (usesByte_one uses)
  have dirty : f.reservedClear (i.opcode.usedBytes i.variant) = false := by
    rw [← Bool.not_eq_true, reservedClear_usedBytes_iff]
    exact fun zeros => nonzero (zeros k inFrame unused)
  exact (Decoding.reservedField selects dirty).decode_eq

/-- The bytes of a well-formed command's frame decode to it (R70, R76). -/
theorem decodeBytes_encode (admissible : c.wf) (fits : i.wellFormed = true) : decodeBytes c (encode c i).toBytes = .ok i := by
  simp [decodeBytes, Frame.ofBytes_toBytes, decodeOfEncodeIsTheCommand c i admissible fits]

/-- Settles O12: the timestamp of an accepted frame is its field, of which 32 bits lose nothing; the example is the frame of its command. -/
theorem timestampFieldIsLittleEndian : Obligations.TimestampFieldIsLittleEndian := by
  refine ⟨fun c f v now accepted => ?_, decodeBytes_encode (i := .tick .alt 1000) default_wf rfl⟩
  obtain ⟨-, operands, -⟩ := decode_eq_ok_iff.1 accepted
  obtain rfl : f.nowField = now := (Instr.tick.inj operands).2
  exact f.nowField_toNat

/-- Settles O8: each frame written out is the frame of its command. -/
theorem writtenOutFramesDecode : Obligations.WrittenOutFramesDecode :=
  ⟨decodeBytes_encode (i := .tick .alt 0xFFFFFFFF) default_wf rfl,
    decodeBytes_encode (i := .tick .std 0x12345678) default_wf rfl,
    decodeBytes_encode (i := .init .alt [0x1F, 0xFC, 0x8F, 0x03, 0xF0, 0x01, 0xF8, 0x1F, 0x00]) default_wf rfl,
    decodeBytes_encode (i := .updateData .std [0xA5, 0, 0, 0, 0, 0x01]) default_wf rfl,
    decodeBytes_encode (i := .transmitOnce .alt) default_wf rfl,
    decodeBytes_encode (i := .enable) default_wf rfl,
    decodeBytes_encode (i := .stopRepeating) default_wf rfl⟩

end Sys2Proof
end

section
/-!
PROOF. The assembler over tokens (30_encoding.md R80, R81): the mnemonic map read both ways, and the operands it takes and refuses.
-/

namespace Sys2Proof

theorem Opcode.find?_mnemonic (o : Opcode) : Opcode.all.find? (fun p => p.mnemonic == o.mnemonic) = some o := by
  cases o <;> decide

/-! ### Identifier operands -/

theorem AsmOperand.byte?_toNat (b : Byte) : (AsmOperand.number b.toNat).byte? = some b := by
  have : b.toNat ≤ 0xFF := by have := b.isLt; omega
  simp [AsmOperand.byte?, this]

theorem AsmOperand.byte?_eq_none {n : Nat} (large : 0xFF < n) : (AsmOperand.number n).byte? = none := by
  simp [AsmOperand.byte?, large]

theorem mapM_byte?_toNat (id : List Byte) :
    (id.map (fun b => AsmOperand.number b.toNat)).mapM AsmOperand.byte? = some id := by
  induction id with
  | nil => rfl
  | cons b id ih => simp [AsmOperand.byte?_toNat, ih]

theorem mapM_byte?_eq_none {ops : List AsmOperand} {op : AsmOperand} (refused : op.byte? = none) (member : op ∈ ops) :
    ops.mapM AsmOperand.byte? = none := by
  induction ops with
  | nil => cases member
  | cons a ops ih =>
    rcases List.mem_cons.1 member with rfl | later
    · simp [refused]
    · cases first : a.byte? <;> simp [first, ih later]

theorem assembleId_toNat {v : Variant} {id : List Byte} (fits : idFits v id = true) :
    assembleId v (id.map (fun b => AsmOperand.number b.toNat)) = some id := by
  rw [assembleId, if_pos (by simpa using idFits_iff.1 fits), mapM_byte?_toNat]

/-- R80: a wrong number of bytes, and "a byte above 0xFF", are refused. -/
theorem assembleId_eq_none {v : Variant} {ops : List AsmOperand}
    (wrong : ops.length ≠ v.dataLen ∨ ∃ n, 0xFF < n ∧ AsmOperand.number n ∈ ops) : assembleId v ops = none := by
  unfold assembleId
  split
  · next length =>
    obtain ⟨n, large, member⟩ := wrong.resolve_left (not_not.2 length)
    exact mapM_byte?_eq_none (AsmOperand.byte?_eq_none large) member
  · rfl

/-! ### Lines -/

theorem assemble_init (v : Variant) (ops : List AsmOperand) :
    assemble ⟨Opcode.init.mnemonic, .variant v :: ops⟩ = (assembleId v ops).map (Instr.init v) := by
  simp only [assemble, Opcode.find?_mnemonic]

theorem assemble_updateData (v : Variant) (ops : List AsmOperand) :
    assemble ⟨Opcode.updateData.mnemonic, .variant v :: ops⟩ = (assembleId v ops).map (Instr.updateData v) := by
  simp only [assemble, Opcode.find?_mnemonic]

theorem assemble_tick (v : Variant) (n : Nat) : assemble ⟨Opcode.tick.mnemonic, [.variant v, .number n]⟩ =
    if n < 2 ^ 32 then some (.tick v (BitVec.ofNat 32 n)) else none := by
  simp only [assemble, Opcode.find?_mnemonic]

theorem assemble_disassemble {i : Instr} (fits : i.wellFormed = true) : assemble (disassemble i) = some i := by
  cases i with
  | init v id => exact (assemble_init v _).trans (by rw [assembleId_toNat fits]; rfl)
  | updateData v id => exact (assemble_updateData v _).trans (by rw [assembleId_toNat fits]; rfl)
  | tick v now => exact (assemble_tick v _).trans (by simp [now.isLt])
  | enable | disable | startRepeating | stopRepeating | transmitOnce _ =>
    simp only [disassemble, assemble, Instr.opcode, Opcode.find?_mnemonic]

/-- Settles O13: a line's operands are read back one by one, and a refused operand refuses the line. -/
theorem assemblerReadsWhatIsWritten : Obligations.AssemblerReadsWhatIsWritten := by
  refine ⟨fun _ fits => assemble_disassemble fits, fun v ops wrong => ⟨?_, ?_⟩, fun v n large => ?_⟩
  · exact (assemble_init v ops).trans (by rw [assembleId_eq_none wrong]; rfl)
  · exact (assemble_updateData v ops).trans (by rw [assembleId_eq_none wrong]; rfl)
  · exact (assemble_tick v n).trans (if_neg (Nat.not_lt.2 large))

end Sys2Proof
end

section
/-!
PROOF. The step of a delivered frame: a table word that decodes runs (log entries 2 and 7), a frame that faults is recorded (30_encoding.md
R76, 60_exceptions.md R200).
-/

namespace Sys2Proof.Machine

theorem decodeTableWord_eq_some_iff {nbits w : Nat} {i : Instr} :
    decodeTableWord nbits w = some i ↔ decode Config.default (frameOfTableWord nbits w) = .ok i := by
  unfold decodeTableWord
  split <;> simp_all

/-- A queued frame, taken again, leaves the state it was queued in. -/
theorem present_queueFrame (f : Frame) (s : State) : (s.queueFrame f).present ⟨s.hwReady, s.lowPower⟩ s.inputs = s := rfl

/-- Settles O15: the word's frame is the oldest input, and under the default policy no command is held. -/
theorem stepRunsThePlacedWord : Obligations.StepRunsThePlacedWord := by
  intro s nbits w i params running word
  have decodes : decode s.cfg (frameOfTableWord nbits w) = .ok i := by rw [params]; exact decodeTableWord_eq_some_iff.1 word
  have notWaiting : s.cfg.updatePolicy ≠ .wait := by rw [params]; decide
  exact step_runs (s := s.withFetchWord nbits w) rfl running decodes (holds_eq_false (.inl notWaiting))

/-- Settles O16: the step of a frame that faults, and the causes the decoder raises. -/
theorem decodeFaultIsRecorded : Obligations.DecodeFaultIsRecorded :=
  fun _ _ _ _ _ running head fails => ⟨step_rejects head running fails, decode_error_code fails⟩

end Sys2Proof.Machine
end

section
/-!
PROOF. The frame bits, bit by bit, and what one bit contributes to the buffer (40_encoder.md R103 to R106); the buffer's length, its
closed form, and the parameters it depends on (R101, R108, R111).
-/

namespace Sys2Proof.Machine

variable {c : Config} {v : Variant} {x : Byte} {id : List Byte} {i k s : Nat}

/-! ### Frame bits -/

theorem dataBit_msbFirst (order : c.bitOrder = .msbFirst) : dataBit c x k = x.getLsbD (7 - k) := by simp [dataBit, order]

theorem dataBit_lsbFirst (order : c.bitOrder = .lsbFirst) : dataBit c x k = x.getLsbD k := by simp [dataBit, order]

theorem frameBit_alt (c : Config) (x : Byte) (k : Nat) : frameBit c .alt x k = dataBit c x k := rfl

theorem frameBit_std_start (c : Config) (x : Byte) : frameBit c .std x 0 = c.startBit := rfl

theorem frameBit_std_data (small : k < 8) : frameBit c .std x (k + 1) = dataBit c x k := by
  simp [frameBit, Nat.succ_le_of_lt small]

theorem frameBit_std_stop (c : Config) (x : Byte) : frameBit c .std x 9 = c.stopBit := rfl

/-- R104, most significant bit first. -/
theorem frameBit_std_msbFirst (order : c.bitOrder = .msbFirst) :
    frameBit c .std x k = if k = 0 then c.startBit else if k ≤ 8 then x.getLsbD (8 - k) else c.stopBit := by
  cases k with
  | zero => rfl
  | succ k => simp [frameBit, dataBit_msbFirst order]

/-- R104, least significant bit first. -/
theorem frameBit_std_lsbFirst (order : c.bitOrder = .lsbFirst) :
    frameBit c .std x k = if k = 0 then c.startBit else if k ≤ 8 then x.getLsbD (k - 1) else c.stopBit := by
  simp [frameBit, dataBit_lsbFirst order]

/-! ### Marks and cells -/

theorem mark_pos (admissible : c.wf) (v : Variant) : 0 < c.mark v := by
  obtain ⟨-, ⟨std, -⟩, alt, -⟩ := admissible
  cases v with
  | std => exact std
  | alt => exact alt

theorem mark_ne_space (admissible : c.wf) (v : Variant) : c.mark v ≠ space := (mark_pos admissible v).ne'

/-- R106: a 0 bit is at rest throughout its cell. -/
theorem encodeBit_false (c : Config) (v : Variant) : encodeBit c v false = List.replicate v.slotsPerBit space :=
  List.replicate_append_replicate

/-- R6: an ALT bit has no gap. -/
theorem encodeBit_alt (c : Config) (b : Bool) : encodeBit c .alt b = List.replicate 4 (slotValue c .alt b) :=
  List.append_nil _

/-- R108: entry `i·E(v) + k·S(v) + s` is the mark exactly in the toggle slots of a 1 bit. -/
theorem encodeBytes_entry (inId : i < id.length) (inByte : k < v.bitsPerByte) (inBit : s < v.slotsPerBit) :
    (encodeBytes c v id)[i * v.entriesPerByte + k * v.slotsPerBit + s]? =
      some (if s < v.toggleSlots ∧ frameBit c v (id.getD i 0) k = true then c.mark v else space) := by
  have byte : id[i]? = some (id.getD i 0) := by simp [inId]
  have inCell : k * v.slotsPerBit + s < v.entriesPerByte :=
    calc k * v.slotsPerBit + s < (k + 1) * v.slotsPerBit := by rw [Nat.succ_mul]; omega
      _ ≤ v.entriesPerByte := Nat.mul_le_mul_right _ inByte
  rw [Nat.add_assoc, encodeBytes_getElem? c v id byte inCell, encodeByte_getElem? c v _ inByte inBit,
    encodeBit_getElem? c v _ inBit, ite_and]
  rfl

/-! ### Length, closed form, parameters -/

/-- Settles O54: the encoder answers a buffer of its variant, or the fault. -/
theorem encodedBufferHasTheFormulasLength : Obligations.EncodedBufferHasTheFormulasLength := by
  intro c v id
  refine ⟨fun fits => ?_, encodeId_of_misfit⟩
  have length : (encodeBytes c v id).length = v.bufferLen := (isBufferOf_encodeBytes (idFits_iff.2 fits)).1
  refine ⟨_, encodeId_of_fits fits, length, ?_⟩
  rw [length]
  cases v <;> rfl

/-- Settles O55: the entry of byte `i`, bit `k` and slot `s`, with the frame bit of either bit order. -/
theorem everyEntryFollowsTheClosedForm : Obligations.EveryEntryFollowsTheClosedForm := by
  constructor
  · intro c id i k s length inId inByte inBit
    have entry := encodeBytes_entry (c := c) (v := .std) (length ▸ inId) inByte inBit
    rw [Nat.mul_comm 120, Nat.mul_comm 12]
    refine entry.trans ?_
    cases order : c.bitOrder with
    | msbFirst => rw [frameBit_std_msbFirst order]; rfl
    | lsbFirst => rw [frameBit_std_lsbFirst order]; rfl
  · intro c id i k s length inId inByte inBit
    have entry := encodeBytes_entry (c := c) (v := .alt) (length ▸ inId) inByte inBit
    have toggles : s < Variant.alt.toggleSlots := inBit
    rw [Nat.mul_comm 32, Nat.mul_comm 4]
    refine entry.trans ?_
    simp only [toggles, true_and, frameBit_alt]
    cases order : c.bitOrder with
    | msbFirst => rw [dataBit_msbFirst order]; rfl
    | lsbFirst => rw [dataBit_lsbFirst order]; rfl

theorem frameBit_congr {c' : Config} (order : c.bitOrder = c'.bitOrder) (start : c.startBit = c'.startBit)
    (stop : c.stopBit = c'.stopBit) (v : Variant) (x : Byte) (k : Nat) : frameBit c v x k = frameBit c' v x k := by
  simp only [frameBit, dataBit, order, start, stop]

theorem encodeBit_congr {c' : Config} (mark : c.mark v = c'.mark v) (b : Bool) : encodeBit c v b = encodeBit c' v b := by
  simp only [encodeBit, slotValue, mark]

/-- Settles O58: the bits and the cells of the two configurations agree. -/
theorem encodingDependsOnItsParametersOnly : Obligations.EncodingDependsOnItsParametersOnly := by
  intro c c' id v mark order start stop
  have bytes : encodeByte c v = encodeByte c' v := by
    funext x
    simp only [encodeByte, frameBit_congr order start stop, encodeBit_congr mark]
  simp only [encodeId, encodeBytes, bytes]

end Sys2Proof.Machine
end

section
/-!
PROOF. The number of marks in a buffer: `T(v)` for each 1 bit of its frame (40_encoder.md R109).
-/

namespace Sys2Proof.Machine

variable {c : Config} {v : Variant}

/-! ### Marks and spaces -/

theorem count_mark_encodeBit (admissible : c.wf) (b : Bool) :
    (encodeBit c v b).count (c.mark v) = if b then v.toggleSlots else 0 := by
  have differ : space ≠ c.mark v := (mark_ne_space admissible v).symm
  cases b <;> simp [encodeBit, slotValue, List.count_replicate, differ]

/-- A sum that has the same summand for every member of a list with a property counts these members. -/
theorem sum_map_ite_eq_mul_countP {α : Type} (p : α → Bool) (n : Nat) (xs : List α) :
    (xs.map (fun a => if p a then n else 0)).sum = n * xs.countP p := by
  induction xs with
  | nil => rfl
  | cons a xs ih => cases h : p a <;> simp [h, ih, Nat.mul_succ, Nat.add_comm]

theorem count_mark_encodeByte (admissible : c.wf) (x : Byte) :
    (encodeByte c v x).count (c.mark v) =
      v.toggleSlots * (List.range v.bitsPerByte).countP (fun k => frameBit c v x k) := by
  rw [encodeByte, List.count_flatMap, ← sum_map_ite_eq_mul_countP]
  exact congrArg List.sum (List.map_congr_left fun k _ => count_mark_encodeBit admissible _)

theorem count_mark_encodeBytes (admissible : c.wf) (id : List Byte) :
    (encodeBytes c v id).count (c.mark v) =
      v.toggleSlots * (id.map (fun x => (List.range v.bitsPerByte).countP (fun k => frameBit c v x k))).sum := by
  rw [encodeBytes, List.count_flatMap, ← List.sum_map_mul_left]
  exact congrArg List.sum (List.map_congr_left fun x _ => count_mark_encodeByte admissible x)

/-- Every entry that is no mark is a space. -/
theorem count_mark_add_count_space (admissible : c.wf) (id : List Byte) :
    (encodeBytes c v id).count (c.mark v) + (encodeBytes c v id).count space = (encodeBytes c v id).length := by
  rw [List.length_eq_countP_add_countP (· == c.mark v)]
  refine congrArg _ (List.countP_congr fun w member => ?_)
  have differ := mark_ne_space admissible v
  rcases encodeBytes_mem member with rfl | rfl
  · simp [differ]
  · simp [differ.symm]

/-! ### One bits -/

/-- Neither bit order changes how many data bits are 1. -/
theorem countP_dataBit (c : Config) (x : Byte) :
    (List.range 8).countP (fun k => dataBit c x k) = (List.range 8).countP (fun k => x.getLsbD k) := by
  cases order : c.bitOrder with
  | lsbFirst => simp only [dataBit_lsbFirst order]
  | msbFirst =>
    have reversed : (List.range 8).map (7 - ·) = (List.range 8).reverse := by decide
    simp only [dataBit_msbFirst order]
    rw [← List.countP_reverse (l := List.range 8) (p := fun k => x.getLsbD k), ← reversed, List.countP_map]
    rfl

/-- R104: with `START_BIT = 1` and `STOP_BIT = 0` the frame has one 1 bit beside the data. -/
theorem countP_frameBit_std (start : c.startBit = true) (stop : c.stopBit = false) (x : Byte) :
    (List.range 10).countP (fun k => frameBit c .std x k) = 1 + (List.range 8).countP (fun k => x.getLsbD k) := by
  have positions : List.range 10 = 0 :: (List.range 8).map (· + 1) ++ [9] := by decide
  have data : ((List.range 8).map (· + 1)).countP (fun k => frameBit c .std x k) =
      (List.range 8).countP (fun k => dataBit c x k) := by
    rw [List.countP_map]
    exact List.countP_congr fun k member => by simp [frameBit_std_data (List.mem_range.1 member)]
  simp [positions, data, frameBit_std_start, frameBit_std_stop, start, stop, countP_dataBit, Nat.add_comm]

theorem popcount_le (id : List Byte) : popcount id ≤ id.length * 8 := by
  have bytewise : ∀ n ∈ id.map (fun x : Byte => (List.range 8).countP (fun k => x.getLsbD k)), n ≤ 8 := by
    simp only [List.forall_mem_map]
    exact fun x _ => List.countP_le_length
  simpa [popcount] using List.sum_le_card_nsmul _ 8 bytewise

theorem count_mark_std (admissible : c.wf) (start : c.startBit = true) (stop : c.stopBit = false) (id : List Byte) :
    (encodeBytes c .std id).count c.markStd = 11 * (id.length + popcount id) := by
  refine (count_mark_encodeBytes (v := .std) admissible id).trans ?_
  simp [Variant.bitsPerByte, Variant.toggleSlots, countP_frameBit_std start stop, popcount, List.sum_map_add]

theorem count_mark_alt (admissible : c.wf) (id : List Byte) :
    (encodeBytes c .alt id).count c.markAlt = 4 * popcount id := by
  refine (count_mark_encodeBytes (v := .alt) admissible id).trans ?_
  simp [Variant.bitsPerByte, Variant.toggleSlots, frameBit_alt, countP_dataBit, popcount]

/-- Settles O56: the marks cell by cell, the spaces as the rest, and the 1 bits of a frame beside those of its data. -/
theorem marksAreCountedByTheOneBits : Obligations.MarksAreCountedByTheOneBits := by
  intro c id admissible
  have bound := popcount_le id
  refine ⟨fun v fits => ⟨count_mark_encodeBytes admissible id, ?_⟩, fun start stop length => ?_, fun length => ?_⟩
  · have total := count_mark_add_count_space (v := v) admissible id
    rw [(isBufferOf_encodeBytes (c := c) (idFits_iff.2 fits)).1] at total
    exact Nat.eq_sub_of_add_eq' total
  · exact ⟨length ▸ count_mark_std admissible start stop id, by omega, by omega⟩
  · exact ⟨count_mark_alt admissible id, by omega⟩

end Sys2Proof.Machine
end

section
/-!
PROOF. Reading an identifier back from its buffer (40_encoder.md R110).
-/

namespace Sys2Proof.Machine

variable {c : Config} {v : Variant} {id : List Byte} {i j k s : Nat}

theorem toggleSlots_pos (v : Variant) : 0 < v.toggleSlots := by cases v <;> decide

/-- R106, R110: every toggle slot of a cell tells its frame bit. -/
theorem encodeBytes_eq_mark_iff (admissible : c.wf) (inId : i < id.length) (inByte : k < v.bitsPerByte)
    (toggles : s < v.toggleSlots) :
    (encodeBytes c v id)[i * v.entriesPerByte + k * v.slotsPerBit + s]? = some (c.mark v) ↔
      frameBit c v (id.getD i 0) k = true := by
  rw [encodeBytes_entry inId inByte (Nat.lt_add_right _ toggles)]
  simp [toggles, (mark_ne_space admissible v).symm]

/-- R104, R105: every bit of a byte is some bit of its frame, at a place that does not depend on the byte. -/
theorem exists_frameBit_eq (c : Config) (v : Variant) (bit : j < 8) :
    ∃ k, k < v.bitsPerByte ∧ ∀ x, frameBit c v x k = x.getLsbD j := by
  obtain ⟨k, small, sent⟩ : ∃ k, k < 8 ∧ ∀ x, dataBit c x k = x.getLsbD j := by
    cases order : c.bitOrder with
    | msbFirst => exact ⟨7 - j, by omega, fun x => by rw [dataBit_msbFirst order, Nat.sub_sub_self (by omega)]⟩
    | lsbFirst => exact ⟨j, bit, fun x => dataBit_lsbFirst order⟩
  cases v with
  | std => exact ⟨k + 1, Nat.add_lt_add_right (Nat.lt_succ_of_lt small) 1, fun x => by rw [frameBit_std_data small, sent]⟩
  | alt => exact ⟨k, small, sent⟩

theorem byte_eq_of_frameBit_eq {x y : Byte} (same : ∀ k, k < v.bitsPerByte → (frameBit c v x k = true ↔ frameBit c v y k = true)) :
    x = y := by
  refine BitVec.eq_of_getLsbD_eq fun j bit => ?_
  obtain ⟨k, inByte, reads⟩ := exists_frameBit_eq c v bit
  rw [← reads, ← reads, Bool.eq_iff_iff]
  exact same k inByte

theorem encodeBytes_injective (admissible : c.wf) {id' : List Byte} (length : id.length = id'.length)
    (same : encodeBytes c v id = encodeBytes c v id') : id = id' := by
  refine List.ext_getElem length fun i inId inId' => byte_eq_of_frameBit_eq (c := c) (v := v) fun k inByte => ?_
  rw [← List.getD_eq_getElem id 0 inId, ← List.getD_eq_getElem id' 0 inId',
    ← encodeBytes_eq_mark_iff admissible inId inByte (toggleSlots_pos v), same,
    encodeBytes_eq_mark_iff admissible inId' inByte (toggleSlots_pos v)]

/-- Settles O57: the first slot of a cell is a toggle slot, and the frame bits determine the bytes. -/
theorem identifierCanBeReadBack : Obligations.IdentifierCanBeReadBack := by
  intro c v admissible
  refine ⟨fun id i k length inId inByte => ?_,
    fun id id' length length' => encodeBytes_injective admissible (length.trans length'.symm)⟩
  exact (encodeBytes_eq_mark_iff admissible (length ▸ inId) inByte (toggleSlots_pos v)).symm

end Sys2Proof.Machine
end

section
/-!
PROOF. The encoder's corner cases and the worked example (40_encoder.md R112, R113).
-/

namespace Sys2Proof.Machine

variable {c : Config} {x : Byte} {k n : Nat}

/-! ### Identifiers of zeros and of ones -/

theorem flatMap_eq_replicate {α β : Type} {f : α → List β} {a : β} {xs : List α} (blocks : ∀ x ∈ xs, f x = List.replicate n a) :
    xs.flatMap f = List.replicate (xs.length * n) a := by
  induction xs with
  | nil => simp
  | cons x xs ih =>
    obtain ⟨first, rest⟩ := List.forall_mem_cons.1 blocks
    rw [List.flatMap_cons, first, ih rest, List.replicate_append_replicate, List.length_cons, Nat.succ_mul, Nat.add_comm]

theorem dataBit_zeros (c : Config) (k : Nat) : dataBit c 0#8 k = false := by
  cases order : c.bitOrder with
  | msbFirst => rw [dataBit_msbFirst order]; exact BitVec.getLsbD_zero
  | lsbFirst => rw [dataBit_lsbFirst order]; exact BitVec.getLsbD_zero

theorem dataBit_ones (c : Config) (small : k < 8) : dataBit c 0xFF k = true := by
  have ones : ∀ j, j < 8 → (0xFF : Byte).getLsbD j = true := by decide
  cases order : c.bitOrder with
  | msbFirst => rw [dataBit_msbFirst order]; exact ones _ (by omega)
  | lsbFirst => rw [dataBit_lsbFirst order]; exact ones _ small

/-- R105: under ALT, bytes whose data bits are all alike make a buffer whose entries are all alike. -/
theorem encodeBytes_alt_replicate {b : Bool} (alike : ∀ k, k < 8 → dataBit c x k = b) (n : Nat) :
    encodeBytes c .alt (List.replicate n x) = List.replicate (n * 32) (slotValue c .alt b) := by
  have byte : encodeByte c .alt x = List.replicate 32 (slotValue c .alt b) :=
    flatMap_eq_replicate (xs := List.range 8) (n := 4) fun k member => by
      rw [frameBit_alt, alike k (List.mem_range.1 member), encodeBit_alt]
  have bytes := flatMap_eq_replicate (xs := List.replicate n x) (f := encodeByte c .alt) (n := 32)
    fun y member => by rw [List.eq_of_mem_replicate member, byte]
  rwa [List.length_replicate] at bytes

/-- R104: a zero byte under STD is a start bit and rest. -/
theorem encodeByte_std_zeros (start : c.startBit = true) (stop : c.stopBit = false) :
    encodeByte c .std 0x00 = List.replicate 11 c.markStd ++ List.replicate 109 0 := by
  have positions : List.range 10 = 0 :: (List.range 9).map (· + 1) := by decide
  have rest : ∀ k, frameBit c .std 0x00 (k + 1) = false := fun k => by simp [frameBit, dataBit_zeros, stop]
  have tail := flatMap_eq_replicate (xs := (List.range 9).map (· + 1)) (n := 12) (a := space)
    (f := fun k => encodeBit c .std (frameBit c .std 0x00 k)) fun k member => by
      obtain ⟨k, -, rfl⟩ := List.mem_map.1 member
      rw [rest, encodeBit_false]
      rfl
  have head : encodeBit c .std (frameBit c .std 0x00 0) = List.replicate 11 c.markStd ++ List.replicate 1 space := by
    rw [frameBit_std_start, start]
    rfl
  change (List.range 10).flatMap _ = _
  rw [positions, List.flatMap_cons, tail, head, List.append_assoc, List.replicate_append_replicate]
  rfl

/-- R112: the last slot of every STD cell is a gap. -/
theorem encodeBytes_std_gap {id : List Byte} {m : Nat} (inId : m < id.length * 10) :
    (encodeBytes c .std id)[12 * m + 11]? = some 0 := by
  have entry := encodeBytes_entry (c := c) (v := .std) (id := id) (i := m / 10) (k := m % 10) (s := 11) (by omega)
    (Nat.mod_lt m (by decide)) (by decide)
  have index : m / 10 * Variant.std.entriesPerByte + m % 10 * Variant.std.slotsPerBit + 11 = 12 * m + 11 := by
    change m / 10 * 120 + m % 10 * 12 + 11 = _
    omega
  rw [index] at entry
  exact entry

/-- Settles O59: the buffers of zeros and ones, the gaps, and the lengths that do not fit. -/
theorem encoderCornerCases : Obligations.EncoderCornerCases := by
  refine ⟨fun c => ?_, fun c => ?_, fun c start stop => ?_, fun c id m length small => ?_, fun c v id near => ?_,
    fun c id length => ?_⟩
  · exact encodeBytes_alt_replicate (fun k _ => dataBit_zeros c k) 9
  · exact encodeBytes_alt_replicate (fun _ => dataBit_ones c) 9
  · rw [encodeBytes, List.flatMap_def, List.map_replicate, encodeByte_std_zeros start stop]
  · exact encodeBytes_std_gap (by omega)
  · exact encodeId_of_misfit (by omega)
  · exact encodeId_of_misfit (by rw [length]; decide)

/-! ### The worked example -/

/-- R108 for ALT: entry `n` is the mark exactly if the data bit of its cell is 1. -/
theorem encodeBytes_alt_eq_mark_iff (admissible : c.wf) {id : List Byte} (inId : n < id.length * 32) :
    (encodeBytes c .alt id)[n]? = some c.markAlt ↔ dataBit c (id.getD (n / 4 / 8) 0) (n / 4 % 8) = true := by
  have reads := encodeBytes_eq_mark_iff (v := .alt) (id := id) (i := n / 4 / 8) (k := n / 4 % 8) (s := n % 4) admissible (by omega)
    (Nat.mod_lt _ (by decide)) (Nat.mod_lt _ (by decide))
  have index : n / 4 / 8 * Variant.alt.entriesPerByte + n / 4 % 8 * Variant.alt.slotsPerBit + n % 4 = n := by
    change n / 4 / 8 * 32 + n / 4 % 8 * 4 + n % 4 = n
    omega
  rw [index] at reads
  exact reads

/-- The identifier of R113. -/
def exampleId : List Byte := [0x1F, 0xFC, 0x8F, 0x03, 0xF0, 0x01, 0xF8, 0x1F, 0x00]

/-- The runs of 1 bits in the identifier of R113, its bits numbered from the most significant one of the first byte. -/
theorem exampleId_bit_iff : ∀ q, q < 72 →
    ((exampleId.getD (q / 8) 0).getLsbD (7 - q % 8) = true ↔
      (3 ≤ q ∧ q ≤ 13) ∨ q = 16 ∨ (20 ≤ q ∧ q ≤ 23) ∨ (30 ≤ q ∧ q ≤ 35) ∨ (47 ≤ q ∧ q ≤ 52) ∨ (59 ≤ q ∧ q ≤ 63)) := by
  decide

/-- Settles O60: four entries for each of the 33 1 bits, which stand in the six runs. -/
theorem workedExampleOfTheAltIdentifier : Obligations.WorkedExampleOfTheAltIdentifier := by
  intro c order admissible
  have ones : popcount exampleId = 33 := by decide
  refine ⟨encodeBytes_length c .alt exampleId, (count_mark_alt admissible exampleId).trans (by rw [ones]), fun n small => ?_⟩
  refine (encodeBytes_alt_eq_mark_iff (id := exampleId) admissible small).trans ?_
  rw [dataBit_msbFirst order, exampleId_bit_iff _ (by omega)]
  omega

end Sys2Proof.Machine
end

section
/-!
PROOF. What each controller command answers, by the checks it passes (41_controller.md R131 to R138, 60_exceptions.md R200, R202): one
lemma per outcome, and the statements on the commands from them.
-/

namespace Sys2Proof.Machine

variable {s : State} {v : Variant} {id : List Byte}

/-! ### The checks -/

theorem State.holdsBuffer_eq_false_iff (s : State) :
    s.holdsBuffer = false ↔ s.cfg.updatePolicy ≠ .wait ∨ s.txBusy = false := by
  rw [← Bool.not_eq_true, State.holdsBuffer_eq_true_iff, not_and_or, Bool.not_eq_true]

/-- R33, R194: the poll answers true exactly on a transport that is ready. -/
theorem pollReady_iff : s.pollReady = true ↔ s.ready := by
  cases model : s.cfg.readyModel <;> simp [State.pollReady, State.ready, model]

theorem pollReady_eq_false_iff : s.pollReady = false ↔ s.notReady := by
  rw [← Bool.not_eq_true, pollReady_iff, not_and_or, Classical.not_imp, Bool.not_eq_false, Bool.not_eq_true]

theorem namesActive_eq_false_iff : s.namesActive v = false ↔ s.activeVariant ≠ s.cfg.codeOf v := by
  rw [← Bool.not_eq_true, namesActive_iff]

/-- A command that is held has no step (R10, R131, R136). -/
theorem exec_of_holds {i : Instr} (running : s.faultCause = 0) (held : holds s i = true) : exec i s = .fault .held := by
  cases i with
  | init v id | updateData v id => exact (whenRunning_of_running running).trans (if_pos held)
  | enable | disable | startRepeating | stopRepeating | transmitOnce _ | tick _ _ => simp [holds] at held

/-! ### INIT -/

/-- R131, R102: the identifier's length is INIT's first check. -/
theorem exec_init_misfit (running : s.faultCause = 0) (free : s.holdsBuffer = false) (misfit : id.length ≠ v.dataLen) :
    exec (.init v id) s = .next (s.recordFault .idLengthMismatch) := by
  rw [exec, execInit, whenRunning_of_running running, whenNotHeld_of_free free, encodeId_of_misfit misfit]
  rfl

/-- R131: what is left of INIT once the length is right. -/
theorem exec_init_of_fits (running : s.faultCause = 0) (free : s.holdsBuffer = false) (fits : id.length = v.dataLen) :
    exec (.init v id) s =
      if s.txBusy && s.cfg.updatePolicy != .wait then raiseFault .bufferHazard s
      else .next ((((s.waitForComplete.setInitialised false).emit (.callInitialize v)).setUpFor v).loadBuffer
        (encodeBytes s.cfg v id)) := by
  rw [exec, execInit, whenRunning_of_running running, whenNotHeld_of_free free, encodeId_of_fits fits]

theorem exec_init_hazard (running : s.faultCause = 0) (policy : s.cfg.updatePolicy ≠ .wait) (busy : s.txBusy = true)
    (fits : id.length = v.dataLen) : exec (.init v id) s = .next (s.recordFault .bufferHazard) := by
  rw [exec_init_of_fits running ((State.holdsBuffer_eq_false_iff s).2 (.inl policy)) fits, if_pos (by simp [busy, policy]),
    raiseFault]

/-- The registers and the trace after INIT (R131, R195). -/
theorem exec_init_idle (running : s.faultCause = 0) (idle : s.txBusy = false) (fits : id.length = v.dataLen) :
    exec (.init v id) s = .next
      { s with
        initialised := false
        setupDone := true
        activeVariant := s.cfg.codeOf v
        pulseBuf := encodeBytes s.cfg v id
        trace := s.trace ++ waitEvents s.cfg ++ [.callInitialize v, .callLoadBuffer (encodeBytes s.cfg v id)] } := by
  rw [exec_init_of_fits running ((State.holdsBuffer_eq_false_iff s).2 (.inr idle)) fits, if_neg (by simp [idle]), waitForComplete_eq,
    List.append_cons]
  rfl

/-- Settles O27: on an idle transport INIT passes every check. -/
theorem initSetsUpAndLoadsTheBuffer : Obligations.InitSetsUpAndLoadsTheBuffer :=
  fun _ _ _ running idle fits => exec_init_idle running idle fits

/-- Settles O28: the length, the hazard, the hold. -/
theorem initFaultsOnLengthThenHazard : Obligations.InitFaultsOnLengthThenHazard := by
  intro v id s running
  refine ⟨fun free misfit => ?_, fun policy busy fits => ?_, fun policy busy => ?_⟩
  · exact exec_init_misfit running ((State.holdsBuffer_eq_false_iff s).2 free) misfit
  · exact exec_init_hazard running policy busy fits
  · exact exec_of_holds running ((holds_eq_true_iff s _).2 ⟨.inl rfl, policy, busy⟩)

/-! ### ENABLE, DISABLE, START_REPEATING, STOP_REPEATING -/

theorem exec_enable_notSetUp (running : s.faultCause = 0) (notSetUp : s.setupDone = false) :
    exec .enable s = .next (s.recordFault .notSetUp) := by
  rw [exec, execEnable, whenRunning_of_running running, if_pos (by simp [notSetUp]), raiseFault]

theorem exec_enable_setUp (running : s.faultCause = 0) (setUp : s.setupDone = true) (active : s.setUpVariant = some v) :
    exec .enable s = .next { s with initialised := true, trace := s.trace ++ [.callEnableDma v] } := by
  rw [exec, execEnable, whenRunning_of_running running, if_neg (by simp [setUp]), active]
  rfl

/-- R25, R132: the variant that a code in `ACTIVE_VARIANT` names. -/
theorem setUpVariant_of_codeOf (admissible : s.cfg.wf) (active : s.activeVariant = s.cfg.codeOf v) : s.setUpVariant = some v := by
  rw [State.setUpVariant, active, variantOf_codeOf admissible]

theorem exec_disable (running : s.faultCause = 0) :
    exec .disable s = .next { s with initialised := false, trace := s.trace ++ [.callDisable] } :=
  whenRunning_of_running running

/-- Settles O29: ENABLE past and before its only check. -/
theorem enableOpensTheGateAfterInit : Obligations.EnableOpensTheGateAfterInit :=
  ⟨fun _ _ admissible running setUp active => exec_enable_setUp running setUp (setUpVariant_of_codeOf admissible active),
    fun _ running notSetUp => exec_enable_notSetUp running notSetUp⟩

/-- Settles O30: DISABLE has no check of its own. -/
theorem disableClosesTheGate : Obligations.DisableClosesTheGate := fun _ running => exec_disable running

/-- Settles O31: neither command has a check of its own. -/
theorem repeatGateFollowsStartAndStop : Obligations.RepeatGateFollowsStartAndStop :=
  fun _ running => ⟨whenRunning_of_running running, whenRunning_of_running running⟩

/-! ### UPDATE_DATA -/

/-- R136, R202: the identifier's length is UPDATE_DATA's first check. -/
theorem exec_updateData_misfit (running : s.faultCause = 0) (free : s.holdsBuffer = false) (misfit : id.length ≠ v.dataLen) :
    exec (.updateData v id) s = .next (s.recordFault .idLengthMismatch) := by
  rw [exec, execUpdateData, whenRunning_of_running running, whenNotHeld_of_free free, encodeId_of_misfit misfit]
  rfl

/-- R136: what is left of UPDATE_DATA once the length is right. -/
theorem exec_updateData_of_fits (running : s.faultCause = 0) (free : s.holdsBuffer = false) (fits : id.length = v.dataLen) :
    exec (.updateData v id) s =
      if !s.setupDone then raiseFault .notSetUp s
      else if !s.namesActive v then raiseFault .variantMismatch s
      else if s.txBusy && s.cfg.updatePolicy == .fault then raiseFault .bufferHazard s
      else .next (s.waitForComplete.loadBuffer (encodeBytes s.cfg v id)) := by
  rw [exec, execUpdateData, whenRunning_of_running running, whenNotHeld_of_free free, encodeId_of_fits fits]

theorem exec_updateData_notSetUp (running : s.faultCause = 0) (free : s.holdsBuffer = false) (fits : id.length = v.dataLen)
    (notSetUp : s.setupDone = false) : exec (.updateData v id) s = .next (s.recordFault .notSetUp) := by
  rw [exec_updateData_of_fits running free fits, if_pos (by simp [notSetUp]), raiseFault]

theorem exec_updateData_otherVariant (running : s.faultCause = 0) (free : s.holdsBuffer = false) (fits : id.length = v.dataLen)
    (setUp : s.setupDone = true) (other : s.activeVariant ≠ s.cfg.codeOf v) :
    exec (.updateData v id) s = .next (s.recordFault .variantMismatch) := by
  rw [exec_updateData_of_fits running free fits, if_neg (by simp [setUp]), if_pos (by simp [namesActive_eq_false_iff.2 other]),
    raiseFault]

theorem exec_updateData_of_active (running : s.faultCause = 0) (free : s.holdsBuffer = false) (fits : id.length = v.dataLen)
    (setUp : s.setupDone = true) (active : s.activeVariant = s.cfg.codeOf v) :
    exec (.updateData v id) s =
      if s.txBusy && s.cfg.updatePolicy == .fault then raiseFault .bufferHazard s
      else .next (s.waitForComplete.loadBuffer (encodeBytes s.cfg v id)) := by
  rw [exec_updateData_of_fits running free fits, if_neg (by simp [setUp]), if_neg (by simp [namesActive_iff.2 active])]

/-- The registers and the trace after UPDATE_DATA (R136, R195). -/
theorem exec_updateData_free (running : s.faultCause = 0) (fits : id.length = v.dataLen) (setUp : s.setupDone = true)
    (active : s.activeVariant = s.cfg.codeOf v) (free : s.txBusy = false ∨ s.cfg.updatePolicy = .doubleBuffer) :
    exec (.updateData v id) s = .next
      { s with
        pulseBuf := encodeBytes s.cfg v id
        trace := s.trace ++ waitEvents s.cfg ++ [.callLoadBuffer (encodeBytes s.cfg v id)] } := by
  have notHeld : s.holdsBuffer = false :=
    (State.holdsBuffer_eq_false_iff s).2 (free.symm.imp_left fun policy => by simp [policy])
  have noHazard : ¬ (s.txBusy && s.cfg.updatePolicy == .fault) = true := by
    rcases free with idle | policy
    · simp [idle]
    · simp [policy]
  rw [exec_updateData_of_active running notHeld fits setUp active, if_neg noHazard, waitForComplete_eq]
  rfl

/-- Settles O32: UPDATE_DATA passes every check. -/
theorem updateDataReplacesTheBuffer : Obligations.UpdateDataReplacesTheBuffer :=
  fun _ _ _ running fits setUp active free => exec_updateData_free running fits setUp active free

/-- Settles O33: the hold, then the check that fails first. -/
theorem updateDataFaultsLowestCodeFirst : Obligations.UpdateDataFaultsLowestCodeFirst := by
  intro v id s running
  refine ⟨fun policy busy => exec_of_holds running ((holds_eq_true_iff s _).2 ⟨.inr rfl, policy, busy⟩), fun notWaiting => ?_⟩
  have free : s.holdsBuffer = false := (State.holdsBuffer_eq_false_iff s).2 notWaiting
  refine ⟨fun misfit => ?_, fun fits notSetUp => ?_, fun fits setUp other => ?_, fun fits setUp active busy policy => ?_⟩
  · exact exec_updateData_misfit running free misfit
  · exact exec_updateData_notSetUp running free fits notSetUp
  · exact exec_updateData_otherVariant running free fits setUp other
  · rw [exec_updateData_of_active running free fits setUp active, if_pos (by simp [busy, policy])]
    rfl

/-- R136: what an UPDATE_DATA that answers no fault has found. -/
theorem updateData_completed {t : State} (next : exec (.updateData v id) s = .next t) (completed : t.faultCause = 0) :
    s.faultCause = 0 ∧ id.length = v.dataLen ∧ s.setupDone = true ∧ s.activeVariant = s.cfg.codeOf v ∧
      (s.txBusy = false ∨ s.cfg.updatePolicy = .doubleBuffer) ∧
      t = { s with
        pulseBuf := encodeBytes s.cfg v id
        trace := s.trace ++ waitEvents s.cfg ++ [.callLoadBuffer (encodeBytes s.cfg v id)] } := by
  obtain ⟨running, e⟩ := exec_effect next
  cases e with
  | faults c raised => exact absurd completed (Cause.code_ne_zero (mayRaise_ne_none raised))
  | updateData fits setUp active free => exact ⟨running, idFits_iff.1 fits, setUp, namesActive_iff.1 active, free, rfl⟩

/-- Settles O34: both runs load the buffer encoded from the operands; UPDATE_DATA leaves what its own checks read, so it passes them
again. -/
theorem repeatedUpdateDataIsIdempotent : Obligations.RepeatedUpdateDataIsIdempotent := by
  intro v id s t s' t' params next completed next'
  obtain ⟨running, fits, setUp, active, free, rfl⟩ := updateData_completed next completed
  refine ⟨fun completed' => ?_, fun again => ?_⟩
  · obtain ⟨-, -, -, -, -, rfl⟩ := updateData_completed next' completed'
    simp [newEvents, params]
  · rw [again] at next'
    obtain rfl := Host.Outcome.next.inj (next'.symm.trans (exec_updateData_free running fits setUp active free))
    exact running

/-! ### TRANSMIT_ONCE -/

/-- R138: a closed gate or a transport that is not ready makes TRANSMIT_ONCE a guarded no-op. -/
theorem exec_transmitOnce_idle (running : s.faultCause = 0) (off : s.initialised = false ∨ s.notReady) :
    exec (.transmitOnce v) s = .next s := by
  rw [exec, execTransmitOnce, whenRunning_of_running running]
  rcases off with closed | notReady
  · rw [if_pos (by simp [closed])]
  · rw [if_pos (c := (!s.pollReady) = true) (by simp [pollReady_eq_false_iff.2 notReady]), ite_self]

/-- R138: what is left of TRANSMIT_ONCE once it would transmit. -/
theorem exec_transmitOnce_of_ready (running : s.faultCause = 0) (enabled : s.initialised = true) (ready : s.ready) :
    exec (.transmitOnce v) s = if !s.namesActive v then raiseFault .variantMismatch s else .next (sent v s) := by
  rw [exec, execTransmitOnce, whenRunning_of_running running, if_neg (by simp [enabled]),
    if_neg (by simp [pollReady_iff.2 ready]), issueTransmit_eq_sent]

theorem exec_transmitOnce_sends (running : s.faultCause = 0) (enabled : s.initialised = true) (ready : s.ready)
    (active : s.activeVariant = s.cfg.codeOf v) : exec (.transmitOnce v) s = .next (sent v s) := by
  rw [exec_transmitOnce_of_ready running enabled ready, if_neg (by simp [namesActive_iff.2 active])]

theorem exec_transmitOnce_otherVariant (running : s.faultCause = 0) (enabled : s.initialised = true) (ready : s.ready)
    (other : s.activeVariant ≠ s.cfg.codeOf v) : exec (.transmitOnce v) s = .next (s.recordFault .variantMismatch) := by
  rw [exec_transmitOnce_of_ready running enabled ready, if_pos (by simp [namesActive_eq_false_iff.2 other]), raiseFault]

/-- Settles O35: TRANSMIT_ONCE passes every check. -/
theorem transmitOnceSendsTheBuffer : Obligations.TransmitOnceSendsTheBuffer :=
  fun _ _ running enabled ready active => exec_transmitOnce_sends running enabled ready active

/-- Settles O36: the variant is checked behind the gate and the poll. -/
theorem transmitOnceFaultsOnAnotherVariant : Obligations.TransmitOnceFaultsOnAnotherVariant :=
  fun _ _ running other => ⟨fun enabled ready => exec_transmitOnce_otherVariant running enabled ready other,
    fun off => exec_transmitOnce_idle running off⟩

/-! ### A held command, and the schedule -/

/-- Settles O17: the step of a held command is the completion, after which it is not held. -/
theorem heldCommandWaitsForTheCompletion : Obligations.HeldCommandWaitsForTheCompletion := by
  intro s r d rest i running head delivers writes policy busy
  have held : holds s i = true := (holds_eq_true_iff s i).2 ⟨writes, policy, busy⟩
  have freed : holds (completeTx s) i = false := holds_eq_false (.inr (.inl rfl))
  exact ⟨exec_of_holds running held, completeTx s, step_held head running delivers held, completeTx_eq s,
    step_runs (s := completeTx s) head running delivers freed⟩

/-- Settles O37: the schedule's registers are TICK's (R20). -/
theorem controllerCommandsLeaveTheSchedule : Obligations.ControllerCommandsLeaveTheSchedule := by
  intro i s t notTick next
  obtain ⟨-, -, -, -, deadline, index, -⟩ := registersAreWrittenByTheirOwners i s t next
  exact ⟨not_ne_iff.1 (mt deadline notTick), not_ne_iff.1 (mt index notTick)⟩

end Sys2Proof.Machine
end

section
/-!
PROOF. Whether a command requests a transmission (10_state.md R35, 41_controller.md R138, 42_scheduler.md R161, R162, 43_transport.md
R191): what it must have found if it does, and what it leaves of the transport if it does not.
-/

namespace Sys2Proof.Machine

variable {s t : State} {i : Instr}

/-- A command that requests a transmission: TRANSMIT_ONCE, or a TICK that fires. -/
inductive Requests (v : Variant) (s : State) : Instr → Prop where
  | once : Requests v s (.transmitOnce v)
  | fires {now : Time} (fires : tickFires v now s = true) : Requests v s (.tick v now)

/-- A command either leaves the transport alone and makes quiet calls only, or sends the buffer on an enabled and ready block. -/
inductive Traffic (i : Instr) (s t : State) : Prop where
  | quiet (busy : t.txBusy = s.txBusy) (variant : t.txVariant = s.txVariant) (snapshot : t.txSnapshot = s.txSnapshot)
      (events : (newEvents s t).all TraceEvent.quiet = true)
  | sends (v : Variant) (requests : Requests v s i) (enabled : s.initialised = true) (ready : s.ready)
      (active : s.activeVariant = s.cfg.codeOf v) (events : newEvents s t = [.callTransmit v s.pulseBuf])

theorem quiet_of_same (same : t.trace = s.trace) : (newEvents s t).all TraceEvent.quiet = true := by simp [newEvents, same]

/-- R161, R162, R172: a tick that fires sends the buffer, whatever schedule it sets. -/
theorem Traffic.of_fires {v : Variant} {now : Time} (fires : tickFires v now s = true)
    (events : t.trace = s.trace ++ [.callTransmit v s.pulseBuf]) : Traffic (.tick v now) s t := by
  obtain ⟨-, enabled, -, ready, -, active⟩ := tickFires_iff.1 fires
  exact .sends v (.fires fires) enabled (pollReady_iff.1 ready) active (newEvents_of_append events)

theorem Effect.traffic (e : Effect i s t) : Traffic i s t := by
  have waits := waitEvents_quiet s.cfg
  cases e with
  | faults _ _ | transmitIdle _ | tickIdle _ | startRepeating | stopRepeating => exact .quiet rfl rfl rfl (quiet_of_same rfl)
  | init _ _ | updateData _ _ _ _ => exact .quiet rfl rfl rfl (by simpa [newEvents, TraceEvent.quiet] using waits)
  | enable _ _ | disable => exact .quiet rfl rfl rfl (by simp [newEvents, TraceEvent.quiet])
  | transmitOnce enabled ready active =>
    exact .sends _ .once enabled (pollReady_iff.1 ready) (namesActive_iff.1 active) (newEvents_of_append rfl)
  | tickLowRate fires _ => exact .of_fires fires (by rw [scheduleLowRate_eq]; rfl)
  | tickJitter fires _ _ => exact .of_fires fires rfl

/-- Settles O20: during a transmission the transport is not ready, so a command is quiet. -/
theorem noCommandEndsATransmission : Obligations.NoCommandEndsATransmission := by
  intro i s t next busy
  cases (exec_effect next).2.traffic with
  | quiet sameBusy variant snapshot events =>
    have quiet := List.all_eq_true.1 events
    refine ⟨sameBusy.trans busy, variant, snapshot, fun completes => ?_, fun v buf sends => ?_⟩
    · exact Bool.false_ne_true (quiet _ completes)
    · exact Bool.false_ne_true (quiet _ sends)
  | sends _ _ _ ready => exact absurd busy (by simp [ready.1])

/-- Settles O51: a command that is not quiet records one request, and found what a request needs. -/
theorem onlyOpenGatesAndAnIdleTransportTransmit : Obligations.OnlyOpenGatesAndAnIdleTransportTransmit := by
  intro i s t v buf next sends
  obtain ⟨running, e⟩ := exec_effect next
  cases e.traffic with
  | quiet _ _ _ events => exact absurd (List.all_eq_true.1 events _ sends) Bool.false_ne_true
  | sends w requests enabled ready active events =>
    obtain ⟨rfl, rfl⟩ : v = w ∧ buf = s.pulseBuf := by simpa [events] using sends
    refine ⟨running, enabled, ready, active, rfl, ?_⟩
    cases requests with
    | once => exact .inl rfl
    | @fires now fires =>
      obtain ⟨-, -, repeats, -, due, -⟩ := tickFires_iff.1 fires
      exact .inr ⟨now, rfl, repeats, (isDue_iff now s.nextFireAt).1 due⟩

end Sys2Proof.Machine
end

section
/-!
PROOF. The lifecycle (10_state.md R34, 41_controller.md R140): its states by the registers they are views of, and the cells of its table.
-/

namespace Sys2Proof.Machine

variable {s : State}

theorem lifecycle_eq_transmitting_iff : s.lifecycle = .transmitting ↔ s.txBusy = true := by
  unfold State.lifecycle
  split_ifs <;> simp [*]

theorem lifecycle_eq_uninitialized_iff : s.lifecycle = .uninitialized ↔ s.txBusy = false ∧ s.setupDone = false := by
  unfold State.lifecycle
  split_ifs <;> simp_all

theorem lifecycle_eq_initialized_iff :
    s.lifecycle = .initialized ↔ s.txBusy = false ∧ s.setupDone = true ∧ s.initialised = false := by
  unfold State.lifecycle
  split_ifs <;> simp_all

theorem lifecycle_eq_armed_iff : s.lifecycle = .armed ↔ s.txBusy = false ∧ s.setupDone = true ∧ s.initialised = true := by
  unfold State.lifecycle
  split_ifs <;> simp_all

/-- R34, R35 (a): outside Armed the gate is closed or the transport is busy. -/
theorem off_of_not_armed (inv : StateInv s) (notArmed : s.lifecycle ≠ .armed) : s.initialised = false ∨ s.notReady := by
  by_cases enabled : s.initialised = true
  · have busy : s.txBusy ≠ false := fun idle => notArmed (lifecycle_eq_armed_iff.2 ⟨idle, inv.enabled enabled, enabled⟩)
    exact .inr (.inl (Bool.eq_true_of_not_eq_false busy))
  · exact .inl (Bool.eq_false_of_not_eq_true enabled)

/-- Settles O42: each cell is an outcome of its command, and its state is read from the registers. -/
theorem lifecycleFollowsTheTable : Obligations.LifecycleFollowsTheTable := by
  intro v id s inv running policy fits active
  have noWait : waitEvents s.cfg = [] := if_neg policy
  have enables (setUp : s.setupDone = true) := exec_enable_setUp running setUp (setUpVariant_of_codeOf inv.config (active setUp))
  refine ⟨fun landed => ?_, fun flying => ?_, fun fresh => ?_, fun landed => ?_, fun flying => ?_,
    ⟨_, exec_disable running, newEvents_of_append rfl, rfl, ?_⟩, fun notArmed => ?_, fun armed ready => ?_⟩
  · have idle : s.txBusy = false := Bool.eq_false_of_not_eq_true (mt lifecycle_eq_transmitting_iff.2 landed)
    exact ⟨_, exec_init_idle running idle fits, lifecycle_eq_initialized_iff.2 ⟨idle, rfl, rfl⟩,
      newEvents_of_append (by simp [noWait])⟩
  · exact exec_init_hazard running policy (lifecycle_eq_transmitting_iff.1 flying) fits
  · exact exec_enable_notSetUp running (lifecycle_eq_uninitialized_iff.1 fresh).2
  · obtain ⟨idle, setUp⟩ : s.txBusy = false ∧ s.setupDone = true := by
      rcases landed with initialized | armed
      · exact (lifecycle_eq_initialized_iff.1 initialized).imp_right And.left
      · exact (lifecycle_eq_armed_iff.1 armed).imp_right And.left
    exact ⟨_, enables setUp, lifecycle_eq_armed_iff.2 ⟨idle, setUp, rfl⟩, newEvents_of_append rfl⟩
  · have busy : s.txBusy = true := lifecycle_eq_transmitting_iff.1 flying
    exact ⟨_, enables (inv.inFlight busy).1, lifecycle_eq_transmitting_iff.2 busy, rfl, newEvents_of_append rfl⟩
  · cases before : s.lifecycle with
    | uninitialized =>
      obtain ⟨idle, notSetUp⟩ := lifecycle_eq_uninitialized_iff.1 before
      exact lifecycle_eq_uninitialized_iff.2 ⟨idle, notSetUp⟩
    | initialized =>
      obtain ⟨idle, setUp, -⟩ := lifecycle_eq_initialized_iff.1 before
      exact lifecycle_eq_initialized_iff.2 ⟨idle, setUp, rfl⟩
    | armed =>
      obtain ⟨idle, setUp, -⟩ := lifecycle_eq_armed_iff.1 before
      exact lifecycle_eq_initialized_iff.2 ⟨idle, setUp, rfl⟩
    | transmitting =>
      have busy : s.txBusy = true := lifecycle_eq_transmitting_iff.1 before
      exact lifecycle_eq_transmitting_iff.2 busy
  · exact exec_transmitOnce_idle running (off_of_not_armed inv notArmed)
  · obtain ⟨-, setUp, enabled⟩ := lifecycle_eq_armed_iff.1 armed
    exact ⟨_, exec_transmitOnce_sends running enabled ready (active setUp), lifecycle_eq_transmitting_iff.2 rfl,
      newEvents_of_append rfl⟩

end Sys2Proof.Machine
end

section
/-!
PROOF. The due check (42_scheduler.md R162, R169, R173): a difference of wrapping timestamps, due while it stays below 2^31.
-/

namespace Sys2Proof.Machine

theorem isDue_eq_false_iff (now next : Time) : isDue now next = false ↔ 2 ^ 31 ≤ (now - next).toNat := by
  rw [← Bool.not_eq_true, isDue_iff, Nat.not_lt]

/-- R162: equality is due. -/
theorem isDue_self (next : Time) : isDue next next = true := by
  rw [isDue_iff, BitVec.sub_self]
  decide

/-- R169: whether a time is due depends only on how far it lies past the deadline, wherever the counter wraps. -/
theorem isDue_add_left_iff (next d : Time) : isDue (next + d) next = true ↔ d.toNat < 2 ^ 31 := by
  rw [isDue_iff, BitVec.add_comm, BitVec.add_sub_cancel]

/-- R9: the wrapping difference in natural numbers. -/
theorem toNat_sub_eq_mod (now next : Time) : (now - next).toNat = (now.toNat + 2 ^ 32 - next.toNat) % 2 ^ 32 := by
  rw [BitVec.toNat_sub]
  congr 1
  omega

/-- R168: an event at or after a deadline that was set `interval` units after `now` is at least `interval` units after `now`. -/
theorem le_toNat_sub_of_due {now now' : Time} {interval : Nat} (small : interval < 2 ^ 31)
    (due : (now' - (now + BitVec.ofNat 32 interval)).toNat < 2 ^ 31) : interval ≤ (now' - now).toNat := by
  have parts : now' - now = (now' - (now + BitVec.ofNat 32 interval)) + BitVec.ofNat 32 interval := by
    rw [sub_add_eq_sub_sub, sub_add_cancel]
  rw [parts, BitVec.toNat_add, BitVec.toNat_ofNat]
  omega

/-- Settles O47: the second clause counts the difference on from `d`, which wraps to 0 after `2^32 - d` units. -/
theorem dueCheckSurvivesTheWrap : Obligations.DueCheckSurvivesTheWrap := by
  refine ⟨isDue_add_left_iff, fun next d e late => ?_, fun now => by rw [isDue_iff, sub_zero]⟩
  have dueIff : isDue (next + d + BitVec.ofNat 32 e) next = true ↔ (d.toNat + e) % 2 ^ 32 < 2 ^ 31 := by
    rw [BitVec.add_assoc, isDue_add_left_iff, BitVec.toNat_add, BitVec.toNat_ofNat, Nat.add_mod_mod]
  refine ⟨fun before => ?_, fun wrapped => dueIff.2 (by omega)⟩
  rw [← Bool.not_eq_true, dueIff]
  omega

end Sys2Proof.Machine
end

section
/-!
PROOF. What TICK answers, by the checks it passes (42_scheduler.md R160 to R166, R172), and the interval a firing tick leaves.
-/

namespace Sys2Proof.Machine

variable {s t : State} {v : Variant} {now : Time}

/-! ### The outcomes of TICK -/

/-- R161, R162: a closed gate, a transport that is not ready or a deadline still ahead makes TICK a guarded no-op. -/
theorem exec_tick_idle (running : s.faultCause = 0)
    (off : s.initialised = false ∨ s.repeating = false ∨ s.notReady ∨ isDue now s.nextFireAt = false) :
    exec (.tick v now) s = .next s := by
  rw [exec, execTick, whenRunning_of_running running]
  rcases off with closed | quiet | notReady | early
  · simp [State.gatesOpen, closed]
  · simp [State.gatesOpen, quiet]
  · simp [pollReady_eq_false_iff.2 notReady]
  · simp [early]

/-- R172, R164, R165: what is left of TICK once it is due in an open, ready block. -/
theorem exec_tick_of_due (running : s.faultCause = 0) (enabled : s.initialised = true) (repeats : s.repeating = true)
    (ready : s.ready) (due : isDue now s.nextFireAt = true) :
    exec (.tick v now) s =
      if !s.namesActive v then raiseFault .variantMismatch s
      else if s.lowPower then .next (sent v (scheduleLowRate now s))
      else (jitterAt s.jitterIndex).elim (.fault .jitterIndexOutOfTable) fun j => .next (sent v (scheduleJitter now j s)) := by
  rw [exec, execTick, whenRunning_of_running running, if_neg (by simp [State.gatesOpen, enabled, repeats]),
    if_neg (by simp [pollReady_iff.2 ready]), if_neg (by simp [due])]
  cases jitterAt s.jitterIndex <;> rfl

theorem exec_tick_otherVariant (running : s.faultCause = 0) (enabled : s.initialised = true) (repeats : s.repeating = true)
    (ready : s.ready) (due : isDue now s.nextFireAt = true) (other : s.activeVariant ≠ s.cfg.codeOf v) :
    exec (.tick v now) s = .next (s.recordFault .variantMismatch) := by
  rw [exec_tick_of_due running enabled repeats ready due, if_pos (by simp [namesActive_eq_false_iff.2 other]), raiseFault]

/-- R164, R165: a tick that fires schedules by the line `lowPower`. -/
theorem exec_tick_of_fires (fires : tickFires v now s = true) :
    exec (.tick v now) s =
      if s.lowPower then .next (sent v (scheduleLowRate now s))
      else (jitterAt s.jitterIndex).elim (.fault .jitterIndexOutOfTable) fun j => .next (sent v (scheduleJitter now j s)) := by
  obtain ⟨running, enabled, repeats, ready, due, active⟩ := tickFires_iff.1 fires
  rw [exec_tick_of_due running enabled repeats (pollReady_iff.1 ready) due, if_neg (by simp [namesActive_iff.2 active])]

theorem exec_tick_lowRate (fires : tickFires v now s = true) (low : s.lowPower = true) :
    exec (.tick v now) s = .next (sent v (scheduleLowRate now s)) := by
  rw [exec_tick_of_fires fires, if_pos low]

/-- R30: an index below 15 reads its entry of the table. -/
theorem jitterAt_eq_getD {i : BitVec 4} (inTable : i.toNat < jitterLen) : jitterAt i = some (jitterTable.getD i.toNat 0) := by
  have bound : i.toNat < jitterTable.length := inTable
  rw [jitterAt, List.getD_eq_getElem _ _ bound, List.getElem?_eq_getElem bound]

theorem exec_tick_jitter (fires : tickFires v now s = true) (normal : s.lowPower = false)
    (inTable : s.jitterIndex.toNat < jitterLen) :
    exec (.tick v now) s = .next (sent v (scheduleJitter now (jitterTable.getD s.jitterIndex.toNat 0) s)) := by
  rw [exec_tick_of_fires fires, if_neg (by simp [normal]), jitterAt_eq_getD inTable, Option.elim_some]

/-- R166: a tick that fires and has a next state leaves the transport busy. -/
theorem txBusy_of_tickFires (fires : tickFires v now s = true) (next : exec (.tick v now) s = .next t) : t.txBusy = true := by
  rw [exec_tick_of_fires fires] at next
  split at next
  · cases next
    rfl
  · cases entry : jitterAt s.jitterIndex with
    | none => simp [entry] at next
    | some j =>
      rw [entry] at next
      cases next
      rfl

/-! ### A tick that has fired -/

/-- R164, R165: a tick that changes the trace has fired, and left one of two deadlines. -/
theorem tick_fired (next : exec (.tick v now) s = .next t) (sends : t.trace ≠ s.trace) :
    tickFires v now s = true ∧
      ((s.lowPower = true ∧ t.nextFireAt = now + BitVec.ofNat 32 s.cfg.lowRateInterval) ∨
        (s.lowPower = false ∧ ∃ j, jitterAt s.jitterIndex = some j ∧ t.nextFireAt = now + BitVec.ofNat 32 (jitterInterval j))) := by
  cases (exec_effect next).2 with
  | faults _ _ | tickIdle _ => exact absurd rfl sends
  | tickLowRate fires low => exact ⟨fires, .inl ⟨low, by rw [scheduleLowRate_eq]; rfl⟩⟩
  | tickJitter fires normal entry => exact ⟨fires, .inr ⟨normal, _, entry, rfl⟩⟩

/-- R170: the intervals of the table's entries. -/
theorem jitterInterval_mem {i : BitVec 4} {j : Nat} (entry : jitterAt i = some j) :
    jitterInterval j ∈ [4500, 5500, 6500, 7500, 8500, 10500, 11500, 12500, 13500] := by
  have listed : ∀ k ∈ jitterTable, jitterInterval k ∈ [4500, 5500, 6500, 7500, 8500, 10500, 11500, 12500, 13500] := by decide
  exact listed j (List.mem_of_getElem? entry)

theorem jitterInterval_bounds {i : BitVec 4} {j : Nat} (entry : jitterAt i = some j) :
    4500 ≤ jitterInterval j ∧ jitterInterval j ≤ 13500 := by
  have listed := jitterInterval_mem entry
  simp only [List.mem_cons, List.not_mem_nil, or_false] at listed
  omega

/-- R9: an interval that fits 32 bits is read back from the deadline it set. -/
theorem toNat_add_ofNat_sub {interval : Nat} (small : interval < 2 ^ 32) :
    ((now + BitVec.ofNat 32 interval) - now).toNat = interval := by
  rw [BitVec.add_comm, BitVec.add_sub_cancel, BitVec.toNat_ofNat, Nat.mod_eq_of_lt small]

/-! ### The statements -/

/-- Settles O44: TICK passes every check, and the index reads the table. -/
theorem dueTickSchedulesByTheJitterTable : Obligations.DueTickSchedulesByTheJitterTable := by
  intro v now s running enabled repeats ready due active normal inTable
  have fires : tickFires v now s = true := tickFires_iff.2
    ⟨running, enabled, repeats, pollReady_iff.2 ready, (isDue_iff _ _).2 due, active⟩
  exact exec_tick_jitter fires normal inTable

/-- Settles O45: TICK passes every check, and the schedule is the low-rate one. -/
theorem lowPowerTickTakesTheFixedInterval : Obligations.LowPowerTickTakesTheFixedInterval := by
  intro v now s running enabled repeats ready due active low
  have fires : tickFires v now s = true := tickFires_iff.2
    ⟨running, enabled, repeats, pollReady_iff.2 ready, (isDue_iff _ _).2 due, active⟩
  rw [exec_tick_lowRate fires low, scheduleLowRate_eq]
  rfl

/-- Settles O46: the variant is checked behind the gates, the poll and the due check. -/
theorem tickChecksTheVariantOnlyWhenDue : Obligations.TickChecksTheVariantOnlyWhenDue := by
  intro v now s running other
  refine ⟨fun enabled repeats ready due => ?_, fun off => ?_⟩
  · exact exec_tick_otherVariant running enabled repeats ready ((isDue_iff _ _).2 due) other
  · rw [← isDue_eq_false_iff] at off
    exact exec_tick_idle running off

/-- Settles O43: a due tick fires, and any other answers the idle state it found. -/
theorem tickFiresExactlyWhenDue : Obligations.TickFiresExactlyWhenDue := by
  intro v now s t enabled repeats ready active next
  have running : s.faultCause = 0 := (exec_effect next).1
  have busyIff : t.txBusy = true ↔ isDue now s.nextFireAt = true := by
    cases due : isDue now s.nextFireAt with
    | true =>
      have fires : tickFires v now s = true := tickFires_iff.2 ⟨running, enabled, repeats, pollReady_iff.2 ready, due, active⟩
      simp [txBusy_of_tickFires fires next]
    | false =>
      rw [exec_tick_idle running (.inr (.inr (.inr due)))] at next
      cases next
      simp [ready.1]
  rw [busyIff, isDue_iff, toNat_sub_eq_mod]
  exact ⟨Iff.rfl, Iff.rfl, isDue_self _⟩

/-- Settles O48: a firing tick leaves the low-rate interval or one of the table. -/
theorem intervalsAreThoseOfTheTable : Obligations.IntervalsAreThoseOfTheTable := by
  intro v now s t unit next sends
  rcases (tick_fired next sends).2 with ⟨low, deadline⟩ | ⟨normal, j, entry, deadline⟩
  · have interval : s.cfg.lowRateInterval = 100000 := by rw [Config.lowRateInterval, unit]
    refine ⟨by simp [low], fun _ => ?_⟩
    rw [deadline, interval, toNat_add_ofNat_sub (by decide)]
  · have bounds := jitterInterval_bounds entry
    refine ⟨fun _ => ?_, by simp [normal]⟩
    rw [deadline, toNat_add_ofNat_sub (by omega)]
    exact jitterInterval_mem entry

/-- Settles O50: the later tick is due on a deadline at least 4500 units after the earlier one. -/
theorem firesAreAtLeastTheBaseIntervalApart : Obligations.FiresAreAtLeastTheBaseIntervalApart := by
  intro v v' now now' s t u w next sends normal kept next' sends'
  obtain ⟨-, -, -, -, due, -⟩ := tickFires_iff.1 (tick_fired next' sends').1
  rcases (tick_fired next sends).2 with ⟨low, -⟩ | ⟨-, j, entry, deadline⟩
  · exact absurd low (by simp [normal])
  · have bounds := jitterInterval_bounds entry
    rw [isDue_iff, kept, deadline] at due
    exact bounds.1.trans (le_toNat_sub_of_due (by omega) due)

end Sys2Proof.Machine
end

section
/-!
PROOF. Ticks at each deadline walk the jitter table (42_scheduler.md R171): a block that would fire still would after the fire and its
completion, one entry further on.
-/

namespace Sys2Proof.Machine

variable {s : State} {v : Variant}

/-- A block in which a TICK at the deadline fires without low power (R161, R164, R172). -/
structure FiresNormally (v : Variant) (s : State) : Prop where
  running : s.faultCause = 0
  enabled : s.initialised = true
  repeats : s.repeating = true
  ready : s.ready
  active : s.activeVariant = s.cfg.codeOf v
  normal : s.lowPower = false
  inTable : s.jitterIndex.toNat < jitterLen

/-- R190, R191: a fire and its completion change the schedule and the trace, so the block fires again at any deadline. -/
theorem FiresNormally.complete (fires : FiresNormally v s) (deadline : Time) {i : BitVec 4} (inTable : i.toNat < jitterLen) :
    FiresNormally v (completeTx (sent v { s with nextFireAt := deadline, jitterIndex := i })) where
  running := fires.running
  enabled := fires.enabled
  repeats := fires.repeats
  ready := ⟨rfl, fires.ready.2⟩
  active := fires.active
  normal := fires.normal
  inTable := inTable

/-- The block after a normal fire at the deadline and its completion (R164, R191). -/
def afterFire (v : Variant) (s : State) : State :=
  completeTx (sent v (scheduleJitter s.nextFireAt (jitterTable.getD s.jitterIndex.toNat 0) s))

theorem FiresNormally.afterFire (fires : FiresNormally v s) : FiresNormally v (afterFire v s) :=
  fires.complete _ (nextJitterIndex_lt s.jitterIndex)

theorem afterFire_nextFireAt (v : Variant) (s : State) :
    (afterFire v s).nextFireAt = s.nextFireAt + BitVec.ofNat 32 (jitterInterval (jitterTable.getD s.jitterIndex.toNat 0)) := rfl

/-- R164, R27: the successor of an index is taken modulo 15, which fits 4 bits. -/
theorem nextJitterIndex_toNat (i : BitVec 4) : (nextJitterIndex i).toNat = (i.toNat + 1) % jitterLen := by
  have bound : (i.toNat + 1) % jitterLen < 15 := Nat.mod_lt _ (by decide)
  rw [nextJitterIndex, BitVec.toNat_ofNat, Nat.mod_eq_of_lt (by omega)]

theorem afterFire_jitterIndex (v : Variant) (s : State) :
    (afterFire v s).jitterIndex.toNat = (s.jitterIndex.toNat + 1) % jitterLen := nextJitterIndex_toNat _

/-- R171: the first of several ticks at the deadlines fires. -/
theorem FiresNormally.fireAtDeadlines_succ (fires : FiresNormally v s) (n : Nat) :
    fireAtDeadlines v (n + 1) s = fireAtDeadlines v n (Machine.afterFire v s) := by
  have due : tickFires v s.nextFireAt s = true := tickFires_iff.2
    ⟨fires.running, fires.enabled, fires.repeats, pollReady_iff.2 fires.ready, isDue_self _, fires.active⟩
  rw [fireAtDeadlines, exec_tick_jitter due fires.normal fires.inTable]
  rfl

/-- How far `n` fires from index `i` on move the deadline: the sum of their intervals (R164, R171). -/
def walkLength (i n : Nat) : Nat :=
  ((List.range n).map fun k => jitterInterval (jitterTable.getD ((i + k) % jitterLen) 0)).sum

/-- The first interval, and the walk from the next index. -/
theorem walkLength_succ {i : Nat} (inTable : i < jitterLen) (n : Nat) :
    walkLength i (n + 1) = jitterInterval (jitterTable.getD i 0) + walkLength ((i + 1) % jitterLen) n := by
  rw [walkLength, List.range_succ_eq_map, List.map_cons, List.sum_cons, List.map_map, Nat.add_zero, Nat.mod_eq_of_lt inTable]
  congr 3
  funext k
  simp only [Function.comp_apply, Nat.mod_add_mod, Nat.succ_eq_add_one, Nat.add_assoc, Nat.add_comm 1 k]

/-- R171: the table sums to 85, from wherever it is entered. -/
theorem walkLength_fifteen {i : Nat} (inTable : i < jitterLen) : walkLength i 15 = 152500 := by
  revert i
  decide

/-- R171: ticks at each deadline all fire, and walk the table from the index they start at. -/
theorem FiresNormally.fireAtDeadlines (fires : FiresNormally v s) (n : Nat) :
    ∃ t, fireAtDeadlines v n s = some t ∧ t.jitterIndex.toNat = (s.jitterIndex.toNat + n) % jitterLen ∧
      t.nextFireAt = s.nextFireAt + BitVec.ofNat 32 (walkLength s.jitterIndex.toNat n) := by
  induction n generalizing s with
  | zero => exact ⟨s, rfl, (Nat.mod_eq_of_lt fires.inTable).symm, (BitVec.add_zero _).symm⟩
  | succ n ih =>
    obtain ⟨t, run, index, deadline⟩ := ih fires.afterFire
    refine ⟨t, (fires.fireAtDeadlines_succ n).trans run, ?_, ?_⟩
    · rw [index, afterFire_jitterIndex, Nat.mod_add_mod, Nat.add_assoc, Nat.add_comm 1 n]
    · rw [deadline, afterFire_jitterIndex, afterFire_nextFireAt, walkLength_succ fires.inTable, BitVec.ofNat_add,
        BitVec.add_assoc]

/-- Settles O49: the walk, and after fifteen fires the walk of the whole table. -/
theorem fifteenFiresCloseTheJitterCycle : Obligations.FifteenFiresCloseTheJitterCycle := by
  intro v s running enabled repeats ready active normal inTable
  have fires : FiresNormally v s := ⟨running, enabled, repeats, ready, active, normal, inTable⟩
  refine ⟨fires.fireAtDeadlines, ?_⟩
  obtain ⟨t, run, index, deadline⟩ := fires.fireAtDeadlines 15
  refine ⟨t, run, BitVec.eq_of_toNat_eq ?_, by rw [deadline, walkLength_fifteen inTable]; rfl⟩
  rw [index, show jitterLen = 15 from rfl, Nat.add_mod_right, Nat.mod_eq_of_lt inTable]

end Sys2Proof.Machine
end

section
/-!
PROOF. The transport's completion and when it comes (43_transport.md R191, log entries 4 and 11): under the invariant a block that has not
faulted or is transmitting has a step, and a step that leaves a transmission in flight has taken an input.
-/

namespace Sys2Proof.Machine

variable {s t : State} {i : Instr}

/-- Settles O19: the transport's turn comes with its input or after the last one, and is a completion exactly while busy. -/
theorem transportCompletes : Obligations.TransportCompletes := by
  intro s rest
  refine ⟨fun head busy => ?_, fun head idle => ?_, fun drained busy => ?_, fun drained idle => ?_⟩
  · rw [step_txComplete head, transportStep_of_busy (s := s.dropInput rest) busy]
    rfl
  · rw [step_txComplete head, transportStep_of_idle (s := s.dropInput rest) idle]
    rfl
  · rw [step_drained drained, transportStep_of_busy busy, completeTx_eq]
  · rw [step_drained drained, transportStep_of_idle idle]

/-! ### Every step there is -/

/-- The draws and the inputs behind a command do not hold it (R131, R136). -/
theorem holds_present (d : Draws) (rest : List Input) (s : State) (i : Instr) : holds (s.present d rest) i = holds s i := by
  cases i <;> rfl

/-- R35: under the invariant a command stops only where the spec gives it no step, on a halted block (R203) or while held (R131, R136). -/
theorem StateInv.exists_exec_eq_next (inv : StateInv s) (running : s.faultCause = 0) (free : holds s i = false) :
    ∃ t, exec i s = .next t := by
  cases result : exec i s with
  | next t => exact ⟨t, rfl⟩
  | refused r => exact absurd result (exec_ne_refused i s r)
  | fault r =>
    rcases exec_fault result with ⟨-, halted⟩ | ⟨-, held, writes⟩ | ⟨-, -, setUp, unnamed⟩ | ⟨-, -, outOfTable⟩
    · exact absurd running halted
    · rcases writes with ⟨v, id, rfl⟩ | ⟨v, id, rfl⟩ <;> exact absurd (free.symm.trans held) Bool.false_ne_true
    · obtain ⟨v, active, -⟩ := inv.setUp setUp
      simp [setUpVariant_of_codeOf inv.config active] at unnamed
    · obtain ⟨j, entry, -⟩ := jitterAt_of_lt inv.jitter
      simp [entry] at outOfTable

/-- R191, R203: under the invariant only a halted block with an idle transport can be without a step. -/
theorem StateInv.exists_step_eq_next (inv : StateInv s) (canMove : s.faultCause = 0 ∨ s.txBusy = true) :
    ∃ t, step s = .next t := by
  rcases head : s.inputs with _ | ⟨_ | _ | _, rest⟩
  case nil => exact ⟨_, step_drained head⟩
  case cons.txComplete => exact ⟨_, step_txComplete head⟩
  case cons.reset => exact ⟨_, step_reset head⟩
  case cons.command r d =>
    by_cases running : s.faultCause = 0
    · cases delivers : r.instr s.cfg with
      | error c => exact ⟨_, step_rejects head running delivers⟩
      | ok i =>
        cases held : holds s i with
        | true => exact ⟨_, step_held head running delivers held⟩
        | false =>
          rw [step_runs head running delivers held]
          exact (inv.present d rest).exists_exec_eq_next running ((holds_present d rest s i).trans held)
    · exact ⟨_, step_halted_busy head running (canMove.resolve_left running)⟩

/-! ### A transmission in flight -/

/-- A step that leaves a transmission in flight has taken an input: with no input left, or a command that waits, the step is the
completion (log entry 4). -/
theorem Move.takes_input (move : Move s t) (busy : t.txBusy = true) : ∃ a, s.inputs = a :: t.inputs := by
  cases move with
  | idle _ idle eq =>
    subst eq
    simp [busy] at idle
  | reset _ _ eq | completesLast _ _ eq | completes _ _ _ eq | frees _ _ _ _ _ eq =>
    subst eq
    exact absurd busy Bool.false_ne_true
  | notEnabled _ head _ eq | rejects _ _ _ _ head _ _ eq =>
    subst eq
    exact ⟨_, head⟩
  | runs _ _ _ _ head _ _ _ eq =>
    obtain ⟨-, left, -⟩ := (exec_effect eq).2.keeps_outside
    rw [left]
    exact ⟨_, head⟩

/-- Settles O22, by induction on the inputs left: a step lands the transmission or takes one of them. -/
theorem transmissionInFlightCompletes : Obligations.TransmissionInFlightCompletes := by
  intro s inv busy
  induction inputs : s.inputs generalizing s with
  | nil =>
    have stepped : step s = .next (completeTx s) := by rw [step_drained inputs, transportStep_of_busy busy]
    exact ⟨1, completeTx s, le_rfl, run_succ_of_next 0 stepped, rfl⟩
  | cons a rest ih =>
    obtain ⟨t, stepped⟩ := inv.exists_step_eq_next (.inr busy)
    cases flying : t.txBusy with
    | false => exact ⟨1, t, by simp, run_succ_of_next 0 stepped, flying⟩
    | true =>
      obtain ⟨b, taken⟩ := (step_move stepped).takes_input flying
      have left : t.inputs = rest := (List.cons.inj (taken.symm.trans inputs)).2
      obtain ⟨k, u, bound, runs, landed⟩ := ih t (stepKeepsTheInvariant s t inv stepped) flying left
      exact ⟨k + 1, u, Nat.succ_le_succ bound, (run_succ_of_next k stepped).trans runs, landed⟩

end Sys2Proof.Machine
end

section
/-!
PROOF. The fault model (60_exceptions.md): a fault is precise and of the command's own codes (R200, R201, R204), a block that has faulted
takes no command until reset (R203), a machine under the invariant stops nowhere else, and a guarded no-op is no fault (R206).
-/

namespace Sys2Proof.Machine

variable {s t : State} {i : Instr}

/-! ### The fault a command records -/

/-- R200: a command raises one of its faults and does nothing else, or leaves `FAULT_CAUSE` alone. -/
theorem Effect.raises_or_keeps_cause (e : Effect i s t) :
    (∃ c ∈ mayRaise i, t = s.recordFault c) ∨ t.faultCause = s.faultCause := by
  cases e with
  | faults c raised => exact .inl ⟨c, raised, rfl⟩
  | tickLowRate _ _ => exact .inr (by simp [sent, scheduleLowRate_eq])
  | transmitIdle _ | tickIdle _ | init _ _ | enable _ _ | disable | startRepeating | stopRepeating
  | updateData _ _ _ _ | transmitOnce _ _ _ | tickJitter _ _ _ => exact .inr rfl

/-- R200, R204: a command that leaves a fault recorded found none, and raised it. -/
theorem exec_raised (next : exec i s = .next t) (faulted : t.faultCause ≠ 0) :
    s.faultCause = 0 ∧ ∃ c ∈ mayRaise i, t = s.recordFault c := by
  obtain ⟨running, e⟩ := exec_effect next
  exact ⟨running, e.raises_or_keeps_cause.resolve_right fun kept => faulted (kept.trans running)⟩

/-- Settles O24: the only effect that leaves a fault recorded is raising it. -/
theorem faultsArePrecise : Obligations.FaultsArePrecise := by
  intro i s t next faulted
  obtain ⟨running, c, -, rfl⟩ := exec_raised next faulted
  exact ⟨running, rfl⟩

/-- Settles O25: the recorded code is that of a cause the command may raise. -/
theorem commandsRecordTheirOwnCodes : Obligations.CommandsRecordTheirOwnCodes := by
  intro i s t next faulted
  obtain ⟨-, c, raised, rfl⟩ := exec_raised next faulted
  cases i with
  | disable | startRepeating | stopRepeating => simp [mayRaise] at raised
  | enable | transmitOnce _ | tick _ _ =>
    obtain rfl := List.mem_singleton.1 raised
    simp [Instr.opcode, Cause.code]
  | init _ _ => rcases List.mem_pair.1 raised with rfl | rfl <;> simp [Instr.opcode, Cause.code]
  | updateData _ _ =>
    simp only [mayRaise, List.mem_cons, List.not_mem_nil, or_false] at raised
    rcases raised with rfl | rfl | rfl | rfl <;> simp [Instr.opcode, Cause.code]

/-- Settles O26: a gate, the poll or the due check ends the command before it writes. -/
theorem guardedNoOpsChangeNothing : Obligations.GuardedNoOpsChangeNothing := by
  intro v now s running
  refine ⟨exec_transmitOnce_idle running, fun off => exec_tick_idle running ?_⟩
  rwa [isDue_eq_false_iff]

/-! ### A block that has faulted -/

theorem exec_of_halted (halted : s.faultCause ≠ 0) : exec i s = .fault .halted := by
  cases i <;> exact whenRunning_of_halted halted

/-- R203: once recorded, a fault stays until a reset. -/
theorem Move.keeps_fault (move : Move s t) (halted : s.faultCause ≠ 0) (noReset : ∀ rest, s.inputs ≠ .reset :: rest) :
    t.faultCause = s.faultCause := by
  cases move with
  | reset rest head _ => exact absurd head (noReset rest)
  | rejects _ _ _ _ _ running _ _ | runs _ _ _ _ _ running _ _ _ => exact absurd running halted
  | idle _ _ eq | completesLast _ _ eq | completes _ _ _ eq | notEnabled _ _ _ eq | frees _ _ _ _ _ eq => exact eq ▸ rfl

/-- Settles O18: a halted block's command waits for the transport or stops, and of all moves only a reset writes `FAULT_CAUSE`. -/
theorem haltedBlockTakesNoCommand : Obligations.HaltedBlockTakesNoCommand := by
  intro s halted
  refine ⟨fun i => exec_of_halted halted, fun _ _ _ head idle => step_halted_idle head halted idle,
    fun _ _ _ head busy => step_halted_busy head halted busy, fun rest head busy => ?_,
    fun _ stepped noReset => (step_move stepped).keeps_fault halted noReset, fun _ head => ⟨_, step_reset head, rfl⟩, ?_⟩
  · exact ⟨_, (transportCompletes s rest).1 head busy, rfl, rfl, rfl⟩
  · simp [State.atRest, isHalted_eq_true_iff.2 halted]

/-! ### Where the machine stops -/

theorem step_ne_refused (s : State) (r : Refusal) : step s ≠ .refused r := by
  unfold step
  split
  next i t _ => exact exec_ne_refused i t r
  all_goals simp

/-- R35, R203: under the invariant a step stops only on a halted block with an idle transport. -/
theorem StateInv.halted_idle_of_step_fault (inv : StateInv s) {r : Fault} (stops : step s = .fault r) :
    s.faultCause ≠ 0 ∧ s.txBusy = false := by
  rw [← Bool.not_eq_true, ← not_or]
  intro canMove
  obtain ⟨t, stepped⟩ := inv.exists_step_eq_next canMove
  cases stepped.symm.trans stops

/-- Settles O21: on a halted block with an idle transport every input but a command is taken. -/
theorem stepStopsExactlyWhenHalted : Obligations.StepStopsExactlyWhenHalted := by
  intro s inv
  refine ⟨step_ne_refused s, fun r => ⟨fun stops => ?_, ?_⟩⟩
  · obtain ⟨halted, idle⟩ := inv.halted_idle_of_step_fault stops
    rcases head : s.inputs with _ | ⟨_ | _ | _, rest⟩
    case nil => cases (step_drained head).symm.trans stops
    case cons.txComplete => cases (step_txComplete head).symm.trans stops
    case cons.reset => cases (step_reset head).symm.trans stops
    case cons.command q d =>
      cases (step_halted_idle head halted idle).symm.trans stops
      exact ⟨rfl, halted, idle, q, d, rest, rfl⟩
  · rintro ⟨rfl, halted, idle, q, d, rest, head⟩
    exact step_halted_idle head halted idle

end Sys2Proof.Machine
end

section
/-!
PROOF. Reset (70_reset_and_hazards.md R230) and the end of a finite run (R245, R247, log entries 4 and 18): every step but the wait of an
idle block with no input left lowers what is left to do, the inputs still to come and the transmission in flight.
-/

namespace Sys2Proof.Machine

variable {s t : State}

/-! ### Reset -/

/-- Settles O1: `State.reset` and what a reset input leaves are both `State.resetWith`, whose values do not depend on its arguments. -/
theorem resetLeavesTheStatedValues : Obligations.ResetLeavesTheStatedValues := by
  refine ⟨fun s rest head => ⟨_, step_reset head, rfl, rfl⟩, fun t afterReset => ?_⟩
  obtain ⟨c, rest, rfl⟩ : ∃ c rest, t = State.resetWith c rest := by
    rcases afterReset with rfl | ⟨s, rest, head, stepped⟩
    · exact ⟨_, _, rfl⟩
    · cases (step_reset head).symm.trans stepped
      exact ⟨_, _, rfl⟩
  exact ⟨rfl, rfl, rfl, rfl, rfl, rfl, rfl, rfl, rfl, rfl⟩

/-! ### What is left to do -/

/-- What is left to do: each input counts for the step that takes it and for the completion of a transmission it may start. -/
def State.workLeft (s : State) : Nat := 2 * s.inputs.length + s.txBusy.toNat

theorem State.workLeft_of_idle (idle : s.txBusy = false) : s.workLeft = 2 * s.inputs.length := by
  simp [State.workLeft, idle]

theorem State.workLeft_of_busy (busy : s.txBusy = true) : s.workLeft = 2 * s.inputs.length + 1 := by
  simp [State.workLeft, busy]

theorem State.workLeft_le (s : State) : s.workLeft ≤ 2 * s.inputs.length + 1 :=
  Nat.add_le_add_left s.txBusy.toNat_le _

/-- The transport's completion is one piece of work less. -/
theorem workLeft_completeTx (busy : s.txBusy = true) : (completeTx s).workLeft < s.workLeft := by
  rw [State.workLeft_of_busy busy, State.workLeft_of_idle (s := completeTx s) rfl]
  exact Nat.lt_succ_self _

/-- A step that takes an input has less left to do, even where it starts a transmission. -/
theorem workLeft_lt_of_takes {a : Input} (taken : s.inputs = a :: t.inputs) : t.workLeft < s.workLeft := by
  have after := t.workLeft_le
  simp only [State.workLeft, taken, List.length_cons] at after ⊢
  omega

/-- A move lowers what is left to do, but for the wait of an idle block with no input left (R231). -/
theorem Move.waits_or_lowers_workLeft (move : Move s t) :
    (s.inputs = [] ∧ s.txBusy = false ∧ t = s) ∨ t.workLeft < s.workLeft := by
  cases move with
  | idle drained idle eq => exact .inl ⟨drained, idle, eq⟩
  | completesLast _ busy eq | frees _ _ _ _ busy eq =>
    subst eq
    exact .inr (workLeft_completeTx busy)
  | reset _ head eq | completes _ head _ eq | notEnabled _ head _ eq | rejects _ _ _ _ head _ _ eq =>
    subst eq
    exact .inr (workLeft_lt_of_takes head)
  | runs _ d rest _ head _ _ _ eq =>
    obtain ⟨-, left, -⟩ := (exec_effect eq).2.keeps_outside
    exact .inr (workLeft_lt_of_takes (head.trans (congrArg _ left.symm)))

/-! ### Where a finite run comes to -/

/-- The two ends of a finite run: the block waits with nothing left to do (R231, R247), or a command waits for a halted block (R203). -/
def State.Settled (t : State) : Prop :=
  (t.inputs = [] ∧ t.txBusy = false ∧ step t = .next t) ∨ (t.faultCause ≠ 0 ∧ step t = .fault .halted)

/-- Under the invariant a machine that has not settled has a step, which lowers what is left to do. -/
theorem StateInv.settled_or_lowers_workLeft (inv : StateInv s) :
    s.Settled ∨ ∃ t, step s = .next t ∧ t.workLeft < s.workLeft := by
  obtain ⟨notRefused, stops⟩ := stepStopsExactlyWhenHalted s inv
  cases stepped : step s with
  | refused r => exact absurd stepped (notRefused r)
  | fault r =>
    obtain ⟨rfl, halted, -⟩ := (stops r).1 stepped
    exact .inl (.inr ⟨halted, stepped⟩)
  | next t =>
    rcases (step_move stepped).waits_or_lowers_workLeft with ⟨drained, idle, rfl⟩ | lower
    · exact .inl (.inl ⟨drained, idle, stepped⟩)
    · exact .inr ⟨t, rfl, lower⟩

/-- Under the invariant a run settles within as many steps as there is work left, by strong induction on it. -/
theorem StateInv.exists_run_settled (inv : StateInv s) :
    ∃ (k : Nat) (t : State), k ≤ s.workLeft ∧ core.run k s = .next t ∧ t.Settled := by
  induction work : s.workLeft using Nat.strong_induction_on generalizing s with
  | _ n ih =>
    rcases inv.settled_or_lowers_workLeft with settled | ⟨t, stepped, lower⟩
    · exact ⟨0, s, Nat.zero_le n, rfl, settled⟩
    · rw [work] at lower
      obtain ⟨k, u, bound, runs, settled⟩ := ih _ lower (stepKeepsTheInvariant s t inv stepped) rfl
      exact ⟨k + 1, u, bound.trans_lt lower, (run_succ_of_next k stepped).trans runs, settled⟩

/-- Settles O23: each input counts twice in the work that is left, and a transmission in flight once. -/
theorem finiteRunsComeToRestOrHalt : Obligations.FiniteRunsComeToRestOrHalt := by
  intro s inv
  obtain ⟨k, t, bound, runs, settled⟩ := inv.exists_run_settled
  exact ⟨k, t, bound.trans s.workLeft_le, runs, settled⟩

end Sys2Proof.Machine
end
